-- ==== Sys2Proof/Word.lean ====
section
/-! DEFINITION. The engine's words, and the two things a host can give it: a command word and a bus request. -/

namespace Sys2Proof

/-- WORD, 64 bits: the width of V0..V3, of every register and of a command word (00_scope.md R10). -/
abbrev Word := BitVec 64

/-- One byte of a key, a message, a tag or a bus lane. -/
abbrev Byte := BitVec 8

/-- The size n of a host transaction: 1, 2, 4 or 8 bytes (00_scope.md R16, 70_reset_and_hazards.md R281). -/
inductive AccessSize where
  | one | two | four | eight
deriving DecidableEq, Repr

/-- The size as a number of bytes (00_scope.md R16). -/
def AccessSize.bytes : AccessSize → Nat
  | .one => 1
  | .two => 2
  | .four => 4
  | .eight => 8

/-- The write flag of a request, with the write data where it is a write (70_reset_and_hazards.md R281). -/
inductive Access where
  | read
  | write (data : Word)
deriving DecidableEq, Repr

/-- One bus request as the engine's port receives it: OFF[5:0], the size and the access
(70_reset_and_hazards.md R281). -/
structure Request where
  off : BitVec 6
  size : AccessSize
  access : Access
deriving DecidableEq, Repr

/-- The two formats, CMD and BUS (30_encoding.md R100). -/
inductive Encoded where
  /-- A command word, as INFLIGHT holds it (R101). -/
  | command (w : Word)
  /-- A bus transaction (R109). -/
  | bus (r : Request)
deriving DecidableEq, Repr

end Sys2Proof
end

