-- ==== Sys2Proof/Config.lean ====
section
/-! DEFINITION. What is fixed for the hardware (00_scope.md R10) and what the spec leaves open (R11). -/

namespace Sys2Proof.Config

/-- C_ROUNDS: compression rounds for each block (00_scope.md R10, 92_eei_decisions.md D24). -/
def cRounds : Nat := 2

/-- D_ROUNDS: finalization rounds (00_scope.md R10, 92_eei_decisions.md D24). -/
def dRounds : Nat := 4

/-- WINDOW_BYTES: eight 8-byte registers (00_scope.md R10). -/
def windowBytes : Nat := 64

/-- LAT where State's `latencies` gives none: how many cycles the n-th command issued takes. A FREE VALUE: any finite
number, different from one command to the next (00_scope.md R11, 70_reset_and_hazards.md R292; entry 2). -/
opaque latency : Nat → Nat

/-- The platform's open parameter BASE, the address of register offset 0 (00_scope.md R11). -/
structure Platform where
  base : Nat
deriving DecidableEq, Repr

end Sys2Proof.Config
end

