-- ==== Sys2Proof/Syntax.lean ====
section
/-! DEFINITION. The instructions: one constructor for each row of spec/opcode_table.json. -/

namespace Sys2Proof

/-- The rows of spec/opcode_table.json: five commands (CMD format) and sixteen register accesses (BUS format).
A write carries the 64-bit data of its transaction. -/
inductive Instr where
  /-- Command 0x00, does nothing (41_commands.md R163). -/
  | nop
  /-- Command 0x01, opens a job (R168). -/
  | init
  /-- Command 0x02, absorbs DATA (R171). -/
  | absorb
  /-- Command 0x03 with REM = r, pads and finalizes (R175). -/
  | final (r : BitVec 3)
  /-- Command 0x04, discards the job (R180). -/
  | abort
  /-- Write KEY0 (42_register_access.md R200). -/
  | wrKey0 (v : Word)
  /-- Write KEY1 (R202). -/
  | wrKey1 (v : Word)
  /-- Write DATA (R204). -/
  | wrData (v : Word)
  /-- Write CMD: issue the command word w (R206). -/
  | wrCmd (w : Word)
  /-- Write the read-only STATUS (R208). -/
  | wrStatus (v : Word)
  /-- Write the read-only TAG (R208). -/
  | wrTag (v : Word)
  /-- Write the read-only MSGLEN (R208). -/
  | wrMsglen (v : Word)
  /-- Write the read-only ID (R208). -/
  | wrId (v : Word)
  /-- Read the write-only KEY0 (R210). -/
  | rdKey0
  /-- Read the write-only KEY1 (R210). -/
  | rdKey1
  /-- Read the write-only DATA (R210). -/
  | rdData
  /-- Read CMD, which has no storage (R210). -/
  | rdCmd
  /-- Read STATUS (R212). -/
  | rdStatus
  /-- Read TAG (R214). -/
  | rdTag
  /-- Read MSGLEN (R216). -/
  | rdMsglen
  /-- Read ID (R218). -/
  | rdId
deriving DecidableEq, Repr

end Sys2Proof
end

