-- ==== Sys2Proof/WellFormed.lean ====
section
/-! DEFINITION. Which encodings and which platform are well formed, each as a check that can be run. The checks are written
from the opcode table and the address rules, not from the decoder. -/

namespace Sys2Proof

/-- The CMD rows of spec/opcode_table.json, as (match, mask). -/
def commandRows : List (Word × Word) :=
  [(0x0, 0xFFFFFFFFFFFFFFFF), (0x1, 0xFFFFFFFFFFFFFFFF), (0x2, 0xFFFFFFFFFFFFFFFF), (0x3, 0xFFFFFFFFFFFFF8FF),
   (0x4, 0xFFFFFFFFFFFFFFFF)]

/-- A command word is well formed when a CMD row of the table matches it. -/
def commandWordWf (w : Word) : Bool :=
  commandRows.any fun row => w &&& row.2 == row.1

/-- Every byte of the access lies in the window, offsets 0x00 to 0x3F (20_memory.md R75). -/
def Request.inWindow (r : Request) : Bool :=
  decide (r.off.toNat + r.size.bytes ≤ Config.windowBytes)

/-- Size 8 and offset a multiple of 8: the only effective accesses (20_memory.md R74). -/
def Request.effective (r : Request) : Bool :=
  r.size == .eight && r.off.toNat % 8 == 0

/-- An encoding is well formed when it is a row of the opcode table: a command word a CMD row matches, or an aligned 8-byte
access, since every aligned offset of the window names a register (10_state.md R48). -/
def Encoded.wf : Encoded → Bool
  | .command w => commandWordWf w
  | .bus r => r.effective

/-- BASE is a multiple of 64 (00_scope.md R11). -/
def Config.Platform.wf (p : Config.Platform) : Bool :=
  p.base % 64 == 0

end Sys2Proof
end

