-- ==== Sys2Proof/Decode.lean ====
section
/-! DEFINITION. The decoder, total and rejecting by name, and the encoder, both written from 30_encoding.md and the register map
of 10_state.md R48. -/

namespace Sys2Proof

/-- The eight registers of the window (10_state.md R48). -/
inductive Reg where
  | key0 | key1 | data | cmd | status | tag | msglen | id
deriving DecidableEq, Repr

/-- The byte offset of a register from BASE (10_state.md R48). -/
def Reg.offset : Reg → BitVec 6
  | .key0 => 0x00
  | .key1 => 0x08
  | .data => 0x10
  | .cmd => 0x18
  | .status => 0x20
  | .tag => 0x28
  | .msglen => 0x30
  | .id => 0x38

/-- All eight registers, in the order of their offsets. -/
def Reg.all : List Reg :=
  [.key0, .key1, .data, .cmd, .status, .tag, .msglen, .id]

/-- The register an offset names, where it names one (10_state.md R48, 20_memory.md R79). -/
def Reg.ofOffset (off : BitVec 6) : Option Reg :=
  Reg.all.find? fun reg => reg.offset == off

/-- Why an encoding stands for no instruction. -/
inductive Reject where
  /-- OPCODE 0x05 to 0xFF (30_encoding.md R106). -/
  | illegalOpcode
  /-- RSVD nonzero, or REM nonzero outside FINAL (30_encoding.md R104, R105). -/
  | reservedField
  /-- A write that is not an aligned 8-byte write (20_memory.md R74). -/
  | badWrite
  /-- A read that is not an aligned 8-byte read, of that size (20_memory.md R74). -/
  | badRead (size : AccessSize)
  /-- A byte of the access lies outside the window: the engine never sees it (20_memory.md R75, 92_eei_decisions.md D40; entry 7). -/
  | outsideWindow
deriving DecidableEq, Repr

/-- What the decoder answers. -/
inductive Decoded where
  | instr (i : Instr)
  | rejected (why : Reject)
deriving DecidableEq, Repr

/-- OPCODE = CMD[7:0] (30_encoding.md R101). -/
def opcodeField (w : Word) : BitVec 8 := w.extractLsb' 0 8

/-- REM = CMD[10:8] (30_encoding.md R101). -/
def remField (w : Word) : BitVec 3 := w.extractLsb' 8 3

/-- RSVD = CMD[63:11] (30_encoding.md R101). -/
def rsvdField (w : Word) : BitVec 53 := w.extractLsb' 11 53

/-- `Decode(w)` of 30_encoding.md R110, check by check. -/
def decodeCommand (w : Word) : Decoded :=
  if 0x05 ≤ (opcodeField w).toNat then .rejected .illegalOpcode
  else if rsvdField w ≠ 0 then .rejected .reservedField
  else if opcodeField w ≠ 0x03 ∧ remField w ≠ 0 then .rejected .reservedField
  else if opcodeField w = 0x00 then .instr .nop
  else if opcodeField w = 0x01 then .instr .init
  else if opcodeField w = 0x02 then .instr .absorb
  else if opcodeField w = 0x03 then .instr (.final (remField w))
  else .instr .abort

/-- The aligned 8-byte read of a register (42_register_access.md R210 to R218). -/
def readInstr : Reg → Instr
  | .key0 => .rdKey0
  | .key1 => .rdKey1
  | .data => .rdData
  | .cmd => .rdCmd
  | .status => .rdStatus
  | .tag => .rdTag
  | .msglen => .rdMsglen
  | .id => .rdId

/-- The aligned 8-byte write of a register (42_register_access.md R200 to R208). -/
def writeInstr (v : Word) : Reg → Instr
  | .key0 => .wrKey0 v
  | .key1 => .wrKey1 v
  | .data => .wrData v
  | .cmd => .wrCmd v
  | .status => .wrStatus v
  | .tag => .wrTag v
  | .msglen => .wrMsglen v
  | .id => .wrId v

/-- What a bus request asks for: a register access if it has size 8 and names a register, else the bad-access case where it lies
in the window, and no meaning where it does not (30_encoding.md R109, 20_memory.md R74, R75). -/
def decodeRequest (r : Request) : Decoded :=
  match r.size, Reg.ofOffset r.off, r.access with
  | .eight, some reg, .read => .instr (readInstr reg)
  | .eight, some reg, .write v => .instr (writeInstr v reg)
  | size, _, .read => .rejected (if r.inWindow then .badRead size else .outsideWindow)
  | _, _, .write _ => .rejected (if r.inWindow then .badWrite else .outsideWindow)

/-- The decoder, over both formats (30_encoding.md R100). -/
def decode : Encoded → Decoded
  | .command w => decodeCommand w
  | .bus r => decodeRequest r

/-- The command word with OPCODE op and REM r, RSVD zero (30_encoding.md R101). -/
def commandWord (op : BitVec 8) (r : BitVec 3) : Word :=
  (0#53 ++ r ++ op)

/-- The aligned 8-byte access to a register. -/
def registerRequest (reg : Reg) (access : Access) : Request :=
  { off := reg.offset, size := .eight, access := access }

/-- The encoding of an instruction (30_encoding.md R102, R109; 10_state.md R48). -/
def encode : Instr → Encoded
  | .nop => .command (commandWord 0x00 0)
  | .init => .command (commandWord 0x01 0)
  | .absorb => .command (commandWord 0x02 0)
  | .final r => .command (commandWord 0x03 r)
  | .abort => .command (commandWord 0x04 0)
  | .wrKey0 v => .bus (registerRequest .key0 (.write v))
  | .wrKey1 v => .bus (registerRequest .key1 (.write v))
  | .wrData v => .bus (registerRequest .data (.write v))
  | .wrCmd w => .bus (registerRequest .cmd (.write w))
  | .wrStatus v => .bus (registerRequest .status (.write v))
  | .wrTag v => .bus (registerRequest .tag (.write v))
  | .wrMsglen v => .bus (registerRequest .msglen (.write v))
  | .wrId v => .bus (registerRequest .id (.write v))
  | .rdKey0 => .bus (registerRequest .key0 .read)
  | .rdKey1 => .bus (registerRequest .key1 .read)
  | .rdData => .bus (registerRequest .data .read)
  | .rdCmd => .bus (registerRequest .cmd .read)
  | .rdStatus => .bus (registerRequest .status .read)
  | .rdTag => .bus (registerRequest .tag .read)
  | .rdMsglen => .bus (registerRequest .msglen .read)
  | .rdId => .bus (registerRequest .id .read)

/-- The size-8 request a 7-bit BUS descriptor A stands for: W = A[6], OFF = A[5:0]; the data is that of a write
(30_encoding.md R109). -/
def descriptorRequest (a : BitVec 7) (v : Word) : Request :=
  { off := a.extractLsb' 0 6, size := .eight, access := if a.getLsbD 6 then .write v else .read }

/-- The encoding behind a row of spec/opcode_table.json: the table gives a BUS row its 7-bit descriptor and no data word
(data 0), and a CMD row its 64-bit word. Entry 5. -/
def tableEncoding (nbits w : Nat) : Encoded :=
  if nbits ≤ 32 then .bus (descriptorRequest (BitVec.ofNat 7 w) 0) else .command (BitVec.ofNat 64 w)

/-- The instruction the decoder reads from a table row's bits, none where it refuses. A descriptor has 7 bits, so bit 7 of its
byte must be 0. Entry 5. -/
def decodeTableWord (nbits w : Nat) : Option Instr :=
  if w < (if nbits ≤ 32 then 2 ^ 7 else 2 ^ 64) then
    match decode (tableEncoding nbits w) with
    | .instr i => some i
    | .rejected _ => none
  else none

end Sys2Proof
end

