-- ==== Sys2Proof/Machine/State.lean ====
section
/-! DEFINITION. Everything the spec gives the machine (10_state.md R30), its transaction-level interface
(70_reset_and_hazards.md R281), and the environment as plain data. -/

namespace Sys2Proof.Machine

/-- The four state words V[0] to V[3] (10_state.md R31). -/
structure SipState where
  v0 : Word
  v1 : Word
  v2 : Word
  v3 : Word
deriving DecidableEq, Repr

/-- V = (0, 0, 0, 0). -/
def SipState.zero : SipState := { v0 := 0, v1 := 0, v2 := 0, v3 := 0 }

/-- PHASE (10_state.md R41). The fourth code, 0b11, is "never held": it has no constructor (entry 9). -/
inductive Phase where
  | idle | absorbing | done
deriving DecidableEq, Repr

/-- The command in flight (10_state.md R44): its word, and how many more cycles pass before its completion
(41_commands.md R160). -/
structure Flight where
  word : Word
  left : Nat
deriving DecidableEq, Repr

/-- The error codes that can be recorded (60_exceptions.md R240). -/
inductive ErrorCode where
  | illegalOpcode | reservedField | badSequence | lengthOverflow | badAccess | keyNotLoaded
deriving DecidableEq, Repr

/-- What the bus port gave the host in the last cycle: ready and read data (70_reset_and_hazards.md R281). -/
inductive Answer where
  /-- No request stood at the port. -/
  | idle
  /-- Ready is 0: the request stalls (20_memory.md R80). -/
  | stalled
  /-- Ready is 1: a write was performed. -/
  | written
  /-- Ready is 1: a read was performed, and these are its bytes, lowest address first (20_memory.md R72). -/
  | returned (bytes : List Byte)
deriving DecidableEq, Repr

/-- What the environment does in one cycle: the level of the reset input, and the request that arrives at the port, if any
(70_reset_and_hazards.md R280, R281). -/
structure CycleInput where
  rst : Bool
  request : Option Request
deriving DecidableEq, Repr

/-- The machine. -/
structure State where
  /-- V[0]..V[3] (10_state.md R31). -/
  v : SipState
  /-- KEY0 (R34). -/
  key0 : Word
  /-- KEY1 (R35). -/
  key1 : Word
  /-- K0LD (R37). -/
  k0ld : Bool
  /-- K1LD (R37). -/
  k1ld : Bool
  /-- DATA (R36). -/
  data : Word
  /-- LEN (R38). -/
  len : Word
  /-- TAG (R40). -/
  tag : Word
  /-- PHASE (R41). -/
  phase : Phase
  /-- INFLIGHT (R44); BUSY is 1 exactly while it holds a command (R43). -/
  inflight : Option Flight
  /-- ERR (R45). -/
  err : Bool
  /-- ERRCODE (R46). -/
  errcode : BitVec 4
  /-- The level of the reset input (70_reset_and_hazards.md R280). -/
  rst : Bool
  /-- The requests at the port that are not performed yet, oldest first (20_memory.md R81). -/
  port : List Request
  /-- Bus ready and read data in the last cycle (70_reset_and_hazards.md R281). -/
  answer : Answer
  /-- The model's own: the environment's inputs of the coming cycles; past its end no request arrives and the reset input keeps
  its level (entry 4). -/
  inputs : List CycleInput
  /-- The model's own: LAT of the commands still to be issued; past its end LAT is `Config.latency` (entry 2). -/
  latencies : List Nat
  /-- The model's own: how many commands were issued, the argument of the free value `Config.latency` (entry 2). -/
  issued : Nat
deriving DecidableEq, Repr

/-- The machine right after reset: every item at the value of 10_state.md R55, the reset input released, nothing at the port. -/
def State.reset : State :=
  { v := SipState.zero, key0 := 0, key1 := 0, k0ld := false, k1ld := false, data := 0, len := 0, tag := 0, phase := .idle,
    inflight := none, err := false, errcode := 0, rst := false, port := [], answer := .idle, inputs := [], latencies := [],
    issued := 0 }

/-- No step of the engine faults: an error is recorded in ERR and ERRCODE, takes no trap (60_exceptions.md R246) and gives no bus
error (70_reset_and_hazards.md R281). So there is no fault, and nothing raises one. -/
inductive Fault where
deriving DecidableEq, Repr

/-- What the model gives no meaning to. -/
inductive Refusal where
  /-- An arm of `exec` without a meaning yet; safe. No arm raises it now. -/
  | notModelled (mnemonic : String)
  /-- An access with a byte outside the window, whose outcome is the platform's and left open (20_memory.md R75,
  92_eei_decisions.md D40, 93_implementation_defined.md P4): raised by `hostAccess` before the port and by `serveRequest` at it;
  safe. No instruction raises it. -/
  | outsideWindow
deriving DecidableEq, Repr

/-- The outcome of a step or of an instruction. -/
abbrev Result := Host.Outcome State Fault Refusal

end Sys2Proof.Machine
end

