-- ==== Sys2Proof/Machine/Datapath.lean ====
section
/-! DEFINITION. The pure functions of 40_datapath.md, in its order, with the notation of 00_scope.md R13 and R14. -/

namespace Sys2Proof.Machine

/-- `rotl64(x, n)`, for 0 < n < 64 (00_scope.md R13). -/
def rotl64 (x : Word) (n : Nat) : Word :=
  (x <<< n) ||| (x >>> (64 - n))

/-- `mask(k) = 2^k - 1` (00_scope.md R13). -/
def mask (k : Nat) : Word :=
  BitVec.ofNat 64 (2 ^ k - 1)

/-- `LE64` of up to eight bytes, the missing ones zero (00_scope.md R14). -/
def le64 : List Byte → Word
  | [] => 0
  | b :: bs => b.setWidth 64 ||| (le64 bs <<< 8)

/-- Byte j of a word, w[8j+7:8j] (00_scope.md R12). -/
def byteOf (w : Word) (j : Nat) : Byte :=
  w.extractLsb' (8 * j) 8

/-- `LEBYTES(w)`: w[7:0], w[15:8], ..., w[63:56] (00_scope.md R14). -/
def leBytes (w : Word) : List Byte :=
  [byteOf w 0, byteOf w 1, byteOf w 2, byteOf w 3, byteOf w 4, byteOf w 5, byteOf w 6, byteOf w 7]

/-- `Init(k0, k1)` (40_datapath.md R130). -/
def initState (k0 k1 : Word) : SipState :=
  { v0 := k0 ^^^ 0x736f6d6570736575
    v1 := k1 ^^^ 0x646f72616e646f6d
    v2 := k0 ^^^ 0x6c7967656e657261
    v3 := k1 ^^^ 0x7465646279746573 }

/-- `SipRound(V)`, line by line (40_datapath.md R131). -/
def sipRound (v : SipState) : SipState :=
  let v0 := v.v0 + v.v1
  let v1 := rotl64 v.v1 13
  let v1 := v1 ^^^ v0
  let v0 := rotl64 v0 32
  let v2 := v.v2 + v.v3
  let v3 := rotl64 v.v3 16
  let v3 := v3 ^^^ v2
  let v0 := v0 + v3
  let v3 := rotl64 v3 21
  let v3 := v3 ^^^ v0
  let v2 := v2 + v1
  let v1 := rotl64 v1 17
  let v1 := v1 ^^^ v2
  let v2 := rotl64 v2 32
  { v0 := v0, v1 := v1, v2 := v2, v3 := v3 }

/-- `Rounds(V, n)` (40_datapath.md R133). -/
def rounds (v : SipState) : Nat → SipState
  | 0 => v
  | n + 1 => sipRound (rounds v n)

/-- `Absorb(V, m)` (40_datapath.md R134). -/
def absorbBlock (v : SipState) (m : Word) : SipState :=
  let mixed := rounds { v with v3 := v.v3 ^^^ m } Config.cRounds
  { mixed with v0 := mixed.v0 ^^^ m }

/-- `PadWord(d, r, L)` (40_datapath.md R136). -/
def padWord (d : Word) (r : BitVec 3) (l : Word) : Word :=
  (d &&& mask (8 * r.toNat)) ||| ((l.extractLsb' 0 8).setWidth 64 <<< 56)

/-- The state `Finalize` leaves (40_datapath.md R139). -/
def finalizeState (v : SipState) : SipState :=
  rounds { v with v2 := v.v2 ^^^ 0xff } Config.dRounds

/-- The tag `Finalize` takes (40_datapath.md R139). -/
def finalizeTag (v : SipState) : Word :=
  let w := finalizeState v
  w.v0 ^^^ w.v1 ^^^ w.v2 ^^^ w.v3

/-- The full chunks of a message, as words, in message order (40_datapath.md R135). -/
def fullChunks : List Byte → List Word
  | b0 :: b1 :: b2 :: b3 :: b4 :: b5 :: b6 :: b7 :: rest =>
    le64 [b0, b1, b2, b3, b4, b5, b6, b7] :: fullChunks rest
  | _ => []

/-- The bytes of a message after its last full chunk, 0 to 7 of them (40_datapath.md R136, R141). -/
def remainderBytes : List Byte → List Byte
  | _ :: _ :: _ :: _ :: _ :: _ :: _ :: _ :: rest => remainderBytes rest
  | bytes => bytes

/-- r = inlen mod 8 as the REM field (40_datapath.md R141, 30_encoding.md R103). -/
def remainderCount (msg : List Byte) : BitVec 3 :=
  BitVec.ofNat 3 (msg.length % 8)

/-- The tag word of `SipHash24`: Init, the fold over the full chunks, the pad word, Finalize (40_datapath.md R141). -/
def sipHashTag (key msg : List Byte) : Word :=
  let v := initState (le64 (key.take 8)) (le64 (key.drop 8))
  let v := (fullChunks msg).foldl absorbBlock v
  let pad := padWord (le64 (remainderBytes msg)) (remainderCount msg) (BitVec.ofNat 64 msg.length)
  finalizeTag (absorbBlock v pad)

/-- `SipHash24(key, msg)`, the eight bytes (40_datapath.md R140, R141). -/
def sipHash24 (key msg : List Byte) : List Byte :=
  leBytes (sipHashTag key msg)

end Sys2Proof.Machine
end

