-- ==== Sys2Proof/Machine/Flags.lean ====
section
/-! DEFINITION. STATUS (10_state.md R49), the error codes (60_exceptions.md R240) and the checks at a command's completion
(60_exceptions.md R241). The engine has no arithmetic flags (10_state.md R53). -/

namespace Sys2Proof.Machine

/-- The 2-bit code of PHASE (10_state.md R41). -/
def Phase.code : Phase → BitVec 2
  | .idle => 0b00
  | .absorbing => 0b01
  | .done => 0b10

/-- The 4-bit code of an error (60_exceptions.md R240). -/
def ErrorCode.code : ErrorCode → BitVec 4
  | .illegalOpcode => 1
  | .reservedField => 2
  | .badSequence => 3
  | .lengthOverflow => 4
  | .badAccess => 5
  | .keyNotLoaded => 6

/-- BUSY: 1 exactly while INFLIGHT holds a command (10_state.md R43). -/
def State.busy (s : State) : Bool :=
  s.inflight.isSome

/-- STATUS as it reads now (10_state.md R49, 42_register_access.md R212). -/
def statusWord (s : State) : Word :=
  ((BitVec.ofBool s.k1ld).setWidth 64 <<< 9) ||| ((BitVec.ofBool s.k0ld).setWidth 64 <<< 8)
    ||| (s.errcode.setWidth 64 <<< 4) ||| ((BitVec.ofBool s.err).setWidth 64 <<< 3)
    ||| (s.phase.code.setWidth 64 <<< 1) ||| (BitVec.ofBool s.busy).setWidth 64

/-- What the checks at completion decide (41_commands.md R161). -/
inductive Verdict where
  | error (code : ErrorCode)
  | discard
  | execute
deriving DecidableEq, Repr

/-- Checks 3 and 4 of 60_exceptions.md R241, for ABSORB and FINAL: discarded while ERR = 1, else only in phase ABSORBING. -/
def jobCheck (s : State) : Verdict :=
  if s.err then .discard
  else if s.phase ≠ .absorbing then .error .badSequence
  else .execute

/-- Checks 3 to 5 of 60_exceptions.md R241, for ABSORB: after `jobCheck`, LEN must not be above 2^64 - 9. -/
def absorbCheck (s : State) : Verdict :=
  match jobCheck s with
  | .execute => if s.len.toNat > 2 ^ 64 - 9 then .error .lengthOverflow else .execute
  | verdict => verdict

/-- Check 6 of 60_exceptions.md R241, for INIT: both key words must be loaded. -/
def initCheck (s : State) : Verdict :=
  if s.k0ld = false ∨ s.k1ld = false then .error .keyNotLoaded else .execute

end Sys2Proof.Machine
end

