-- ==== Sys2Proof/Machine/Operands.lean ====
section
/-! DEFINITION. Operand forms: the REM operand of a command, and what an aligned 8-byte read of each register returns. -/

namespace Sys2Proof.Machine

/-- r = zext_64(CMD[10:8]) (30_encoding.md R103). -/
def remOperand (r : BitVec 3) : Word :=
  r.setWidth 64

/-- The constant of the ID register (10_state.md R47). -/
def idWord : Word := 0x5349504800010402

/-- The value a read of a register returns (10_state.md R48): the write-only ones 0, the read-only ones their value. -/
def readValue (s : State) : Reg → Word
  | .key0 => 0
  | .key1 => 0
  | .data => 0
  | .cmd => 0
  | .status => statusWord s
  | .tag => s.tag
  | .msglen => s.len
  | .id => idWord

end Sys2Proof.Machine
end

