-- ==== Sys2Proof/Machine/Ops.lean ====
section
/-! DEFINITION. The operations the instructions share: recording and clearing an error, the stall rule and the answer at the port,
issuing and completing a command, wiping and resetting. -/

namespace Sys2Proof.Machine

/-- `RecordError(code)`, the whole of an error's entry: the first error is kept (60_exceptions.md R243, R246, R248). -/
def recordError (code : ErrorCode) (s : State) : State :=
  if s.err then s else { s with err := true, errcode := code.code }

/-- Clearing the error, the whole of the return from one (60_exceptions.md R247). -/
def clearError (s : State) : State :=
  { s with err := false, errcode := 0 }

/-- `INFLIGHT <- empty` (41_commands.md R161). -/
def closeCommand (s : State) : State :=
  { s with inflight := none }

/-- `Complete` after its checks: record the error, or do nothing, or perform the command; then empty INFLIGHT
(41_commands.md R161). -/
def completeWith (verdict : Verdict) (perform : State → State) (s : State) : Result :=
  match verdict with
  | .error code => .next (closeCommand (recordError code s))
  | .discard => .next (closeCommand s)
  | .execute => .next (closeCommand (perform s))

/-- V, KEY0, KEY1 and DATA to zero, K0LD and K1LD to 0: the zeroization of FINAL and ABORT (41_commands.md R175, R180;
92_eei_decisions.md D19). -/
def zeroizeSecrets (s : State) : State :=
  { s with v := SipState.zero, key0 := 0, key1 := 0, data := 0, k0ld := false, k1ld := false }

/-- LAT of the next command issued: the first of `latencies`, or the free value of its number (00_scope.md R11; entry 2). -/
def nextLatency (s : State) : Nat :=
  match s.latencies with
  | [] => Config.latency s.issued
  | n :: _ => n

/-- `INFLIGHT <- w` (42_register_access.md R206), with its LAT. -/
def issueCommand (w : Word) (s : State) : State :=
  { s with inflight := some { word := w, left := nextLatency s }, latencies := s.latencies.tail, issued := s.issued + 1 }

/-- Ready 0: the request at the port is not performed and waits (20_memory.md R80). -/
def stallRequest (s : State) : State :=
  { s with answer := .stalled }

/-- Ready 1: the request at the port is performed and leaves it (70_reset_and_hazards.md R281). -/
def finishRequest (answer : Answer) (s : State) : State :=
  { s with port := s.port.tail, answer := answer }

/-- A transaction with this effect and this answer, under the stall rule: it waits while a command is in flight
(20_memory.md R80). -/
def performRequest (effect : State → State) (answer : Answer) (s : State) : Result :=
  if s.busy then .next (stallRequest s) else .next (finishRequest answer (effect s))

/-- A write with this effect (42_register_access.md R200 to R208). -/
def performWrite (effect : State → State) (s : State) : Result :=
  performRequest effect .written s

/-- The aligned 8-byte read of a register, little-endian and without effect (20_memory.md R72, R77). -/
def performRead (reg : Reg) (s : State) : Result :=
  performRequest id (.returned (leBytes (readValue s reg))) s

/-- The aligned 8-byte read of STATUS, the only access that never stalls (42_register_access.md R212). -/
def performStatusRead (s : State) : Result :=
  .next (finishRequest (.returned (leBytes (readValue s .status))) s)

/-- A write that is not aligned or not of 8 bytes: no register changes, BAD_ACCESS is recorded (20_memory.md R74). -/
def badWrite (s : State) : Result :=
  performWrite (recordError .badAccess) s

/-- A read that is not aligned or not of 8 bytes: that many zero bytes, nothing recorded (20_memory.md R74). -/
def badRead (size : AccessSize) (s : State) : Result :=
  performRequest id (.returned (List.replicate size.bytes 0)) s

/-- Every item of 10_state.md R55 to its reset value; the command in flight is abandoned (70_reset_and_hazards.md R280).
The interface and the environment are no items of R55. -/
def resetItems (s : State) : State :=
  { s with
    v := SipState.zero, key0 := 0, key1 := 0, k0ld := false, k1ld := false, data := 0, len := 0, tag := 0, phase := .idle,
    inflight := none, err := false, errcode := 0 }

end Sys2Proof.Machine
end

