-- ==== Sys2Proof/Machine/Commands.lean ====
section
/-! DEFINITION. The five commands (41_commands.md). The meaning of a command is its completion, `Complete(w)` of R161: its checks
(60_exceptions.md R241), then its effects, then INFLIGHT empty. Checks 1 and 2 of R241 are the decoder's: a word that fails them
is no instruction (`completeRejected` records its error). -/

namespace Sys2Proof.Machine

/-- `Perform(INIT)` (41_commands.md R168). -/
def performInit (s : State) : State :=
  clearError { s with v := initState s.key0 s.key1, len := 0, tag := 0, phase := .absorbing }

/-- `Perform(ABSORB)` (41_commands.md R171). The sum wraps only in states 10_state.md R39 rules out (entry 11). -/
def performAbsorb (s : State) : State :=
  { s with v := absorbBlock s.v s.data, len := s.len + 8 }

/-- `Perform(FINAL r)` (41_commands.md R175): the tag is taken before V is zeroized. -/
def performFinal (r : BitVec 3) (s : State) : State :=
  let total := s.len + remOperand r
  let absorbed := absorbBlock s.v (padWord s.data r total)
  zeroizeSecrets { s with tag := finalizeTag absorbed, len := total, phase := .done }

/-- `Perform(ABORT)` (41_commands.md R180). -/
def performAbort (s : State) : State :=
  clearError { zeroizeSecrets s with len := 0, tag := 0, phase := .idle }

/-- NOP: no effect, in any phase and under ERR (41_commands.md R163). -/
def execNop (s : State) : Result :=
  completeWith .execute id s

/-- INIT (41_commands.md R168). -/
def execInit (s : State) : Result :=
  completeWith (initCheck s) performInit s

/-- ABSORB (41_commands.md R171). -/
def execAbsorb (s : State) : Result :=
  completeWith (absorbCheck s) performAbsorb s

/-- FINAL r (41_commands.md R175). -/
def execFinal (r : BitVec 3) (s : State) : Result :=
  completeWith (jobCheck s) (performFinal r) s

/-- ABORT (41_commands.md R180). -/
def execAbort (s : State) : Result :=
  completeWith .execute performAbort s

/-- The error code of a rejected encoding, where it records one: reads record none, and an access outside the
window is not the engine's (60_exceptions.md R240, R244; 20_memory.md R75). -/
def rejectCode : Reject → Option ErrorCode
  | .illegalOpcode => some .illegalOpcode
  | .reservedField => some .reservedField
  | .badWrite => some .badAccess
  | .badRead _ => none
  | .outsideWindow => none

/-- The completion of a word that is no command: it only records its error (41_commands.md R161, R164; 30_encoding.md R104 to
R107). -/
def completeRejected (why : Reject) (s : State) : Result :=
  match rejectCode why with
  | some code => completeWith (.error code) id s
  | none => completeWith .discard id s

end Sys2Proof.Machine
end

