-- ==== Sys2Proof/Machine/Reads.lean ====
section
/-! DEFINITION. The aligned 8-byte reads of the eight registers (42_register_access.md R210 to R218). -/

namespace Sys2Proof.Machine

/-- Read of the write-only KEY0: 0 (42_register_access.md R210). -/
def execRdKey0 (s : State) : Result :=
  performRead .key0 s

/-- Read of the write-only KEY1: 0 (42_register_access.md R210). -/
def execRdKey1 (s : State) : Result :=
  performRead .key1 s

/-- Read of the write-only DATA: 0 (42_register_access.md R210). -/
def execRdData (s : State) : Result :=
  performRead .data s

/-- Read of CMD: 0 (42_register_access.md R210). -/
def execRdCmd (s : State) : Result :=
  performRead .cmd s

/-- Read of STATUS, which never stalls (42_register_access.md R212). -/
def execRdStatus (s : State) : Result :=
  performStatusRead s

/-- Read of TAG (42_register_access.md R214). -/
def execRdTag (s : State) : Result :=
  performRead .tag s

/-- Read of MSGLEN: LEN (42_register_access.md R216). -/
def execRdMsglen (s : State) : Result :=
  performRead .msglen s

/-- Read of ID (42_register_access.md R218). -/
def execRdId (s : State) : Result :=
  performRead .id s

end Sys2Proof.Machine
end

