-- ==== Sys2Proof/Machine/Writes.lean ====
section
/-! DEFINITION. The aligned 8-byte writes of the eight registers (42_register_access.md R200 to R208). -/

namespace Sys2Proof.Machine

/-- `KEY0 <- v; K0LD <- 1` (42_register_access.md R200). -/
def execWrKey0 (v : Word) (s : State) : Result :=
  performWrite (fun s => { s with key0 := v, k0ld := true }) s

/-- `KEY1 <- v; K1LD <- 1` (42_register_access.md R202). -/
def execWrKey1 (v : Word) (s : State) : Result :=
  performWrite (fun s => { s with key1 := v, k1ld := true }) s

/-- `DATA <- v` (42_register_access.md R204). -/
def execWrData (v : Word) (s : State) : Result :=
  performWrite (fun s => { s with data := v }) s

/-- `INFLIGHT <- w` (42_register_access.md R206). -/
def execWrCmd (w : Word) (s : State) : Result :=
  performWrite (issueCommand w) s

/-- A write to STATUS records BAD_ACCESS; the value is ignored (42_register_access.md R208). -/
def execWrStatus (_v : Word) (s : State) : Result :=
  performWrite (recordError .badAccess) s

/-- A write to TAG records BAD_ACCESS; the value is ignored (42_register_access.md R208). -/
def execWrTag (_v : Word) (s : State) : Result :=
  performWrite (recordError .badAccess) s

/-- A write to MSGLEN records BAD_ACCESS; the value is ignored (42_register_access.md R208). -/
def execWrMsglen (_v : Word) (s : State) : Result :=
  performWrite (recordError .badAccess) s

/-- A write to ID records BAD_ACCESS; the value is ignored (42_register_access.md R208). -/
def execWrId (_v : Word) (s : State) : Result :=
  performWrite (recordError .badAccess) s

end Sys2Proof.Machine
end

