-- ==== Sys2Proof/Machine/Dispatch.lean ====
section
/-! DEFINITION. One arm for each instruction, each a call of its meaning. -/

namespace Sys2Proof.Machine

def exec (i : Instr) (s : State) : Host.Outcome State Fault Refusal :=
  match i with
  | .nop => Sys2Proof.Machine.execNop s
  | .init => Sys2Proof.Machine.execInit s
  | .absorb => Sys2Proof.Machine.execAbsorb s
  | .final r => Sys2Proof.Machine.execFinal r s
  | .abort => Sys2Proof.Machine.execAbort s
  | .wrKey0 v => Sys2Proof.Machine.execWrKey0 v s
  | .wrKey1 v => Sys2Proof.Machine.execWrKey1 v s
  | .wrData v => Sys2Proof.Machine.execWrData v s
  | .wrCmd w => Sys2Proof.Machine.execWrCmd w s
  | .wrStatus v => Sys2Proof.Machine.execWrStatus v s
  | .wrTag v => Sys2Proof.Machine.execWrTag v s
  | .wrMsglen v => Sys2Proof.Machine.execWrMsglen v s
  | .wrId v => Sys2Proof.Machine.execWrId v s
  | .rdKey0 => Sys2Proof.Machine.execRdKey0 s
  | .rdKey1 => Sys2Proof.Machine.execRdKey1 s
  | .rdData => Sys2Proof.Machine.execRdData s
  | .rdCmd => Sys2Proof.Machine.execRdCmd s
  | .rdStatus => Sys2Proof.Machine.execRdStatus s
  | .rdTag => Sys2Proof.Machine.execRdTag s
  | .rdMsglen => Sys2Proof.Machine.execRdMsglen s
  | .rdId => Sys2Proof.Machine.execRdId s

end Sys2Proof.Machine
end

