-- ==== Sys2Proof/Machine/Sequencer.lean ====
section
/-! DEFINITION. One cycle around an instruction: what the environment brings, which one event happens (60_exceptions.md R250), and
how the event is served. -/

namespace Sys2Proof.Machine

/-- The port before any request is served this cycle: a request that stands there waits (70_reset_and_hazards.md R281). -/
def restingAnswer : List Request → Answer
  | [] => .idle
  | _ :: _ => .stalled

/-- The requests at the port after this cycle's inputs. A reset that becomes asserted abandons the requests in progress
(70_reset_and_hazards.md R280, 92_eei_decisions.md D34); the one that arrives comes last (20_memory.md R81). -/
def portAfter (c : CycleInput) (s : State) : List Request :=
  (if c.rst && !s.rst then [] else s.port) ++ c.request.toList

/-- The cycle's inputs taken in: the reset level and the request that arrives. Past the end of `inputs` nothing arrives and the
reset input keeps its level (entry 4). -/
def sampleInputs (s : State) : State :=
  match s.inputs with
  | [] => { s with answer := restingAnswer s.port }
  | c :: rest =>
    { s with rst := c.rst, port := portAfter c s, inputs := rest, answer := restingAnswer (portAfter c s) }

/-- The one event of a cycle (60_exceptions.md R250). -/
inductive Event where
  /-- The reset input is asserted (70_reset_and_hazards.md R280). -/
  | reset
  /-- The command in flight, this word, completes (41_commands.md R160). -/
  | complete (w : Word)
  /-- The request at the head of the port is performed, or stalls (20_memory.md R80, R81). -/
  | request (r : Request)
  /-- None of them. -/
  | quiet
deriving DecidableEq, Repr

/-- The event of the cycle, after its inputs: a reset takes precedence (60_exceptions.md R250), then a command whose LAT has
passed, then the port (entry 3). -/
def selectEvent (s : State) : Event :=
  if s.rst then .reset
  else match s.inflight, s.port with
    | some { word := w, left := 0 }, _ => .complete w
    | _, r :: _ => .request r
    | _, [] => .quiet

/-- A cycle of LAT passes for the command in flight: one step is one cycle, the model's count (DESIGN CHOICE, entries 2 and 3). -/
def tick (s : State) : State :=
  { s with inflight := s.inflight.map fun f => { f with left := f.left - 1 } }

/-- The completion of the word in flight: its command, or the error of a word that is none (41_commands.md R161). -/
def completeWord (w : Word) (s : State) : Result :=
  match decode (.command w) with
  | .instr i => exec i s
  | .rejected why => completeRejected why s

/-- A request of the host: a register access, the bad-access case (20_memory.md R74), or one with a byte outside the window, which
a model of the engine refuses (R75, 92_eei_decisions.md D40; entry 7). -/
def serveRequest (r : Request) (s : State) : Result :=
  match decode (.bus r) with
  | .instr i => exec i s
  | .rejected (.badRead size) => badRead size s
  | .rejected .outsideWindow => .refused .outsideWindow
  | .rejected _ => badWrite s

/-- The read that never stalls (42_register_access.md R212). -/
def statusRead : Request :=
  registerRequest .status .read

/-- A STATUS read that stands at the port when a command completes is performed right after the completion, in the same cycle:
it never stalls (42_register_access.md R212; entry 3). -/
def readStatusAfter (s : State) : Result :=
  if s.port.head? = some statusRead then performStatusRead s else .next s

/-- Serve the event. -/
def serveEvent (e : Event) (s : State) : Result :=
  match e with
  | .reset => .next (resetItems s)
  | .complete w =>
    match completeWord w s with
    | .next t => readStatusAfter t
    | .fault f => .fault f
    | .refused r => .refused r
  | .request r => serveRequest r (tick s)
  | .quiet => .next (tick s)

/-- Inputs under which the next cycle sees no reset and no arrival, the others after it. -/
def quietFirst : List CycleInput → List CycleInput
  | [] => []
  | c :: rest => { rst := false, request := none } :: c :: rest

/-- An encoding placed where the next cycle runs it: a command word in flight with no cycle left to it, a bus request at the head
of the port with no command in flight (entry 5). -/
def placeEncoded (e : Encoded) (s : State) : State :=
  match e with
  | .command w => { s with rst := false, inflight := some { word := w, left := 0 }, inputs := quietFirst s.inputs }
  | .bus r => { s with rst := false, inflight := none, port := r :: s.port, inputs := quietFirst s.inputs }

end Sys2Proof.Machine
end

