-- ==== Sys2Proof/Machine/Step.lean ====
section
/-! DEFINITION. One step of the machine: one cycle of the engine, with its one event. -/

namespace Sys2Proof.Machine

/-- One cycle: its inputs, then its event (70_reset_and_hazards.md R281; 60_exceptions.md R250; entry 3). -/
def step (s : State) : Host.Outcome State Fault Refusal :=
  serveEvent (selectEvent (sampleInputs s)) (sampleInputs s)

/-- The state whose next step runs the table row's bits w (entry 5). -/
def State.withFetchWord (s : State) (nbits w : Nat) : State :=
  placeEncoded (tableEncoding nbits w) s

end Sys2Proof.Machine
end

