-- ==== Sys2Proof/Machine/HostProgram.lean ====
section
/-! DEFINITION. The host agent running a program in the syntax of 30_encoding.md R111 and R112, over the engine's step. It is no
part of the engine's state: a label is the index of an operation, a host variable xN is a number N (entry 10). -/

namespace Sys2Proof.Machine

/-- The operations of R111. -/
inductive HostOp where
  /-- `wr REG, imm64`. -/
  | wr (reg : Reg) (imm : Word)
  /-- `rd REG -> xN`. -/
  | rd (reg : Reg) (x : Nat)
  /-- `bnz xN, mask, label`. -/
  | bnz (x : Nat) (mask : Word) (label : Nat)
  /-- `bz xN, mask, label`. -/
  | bz (x : Nat) (mask : Word) (label : Nat)
deriving DecidableEq, Repr

/-- The engine and one host that has exclusive use of it (60_exceptions.md R256). -/
structure System where
  engine : State
  program : List HostOp
  index : Nat
  vars : List (Nat × Word)
deriving DecidableEq, Repr

/-- `NOP`, `INIT`, `ABSORB`, `ABORT`: a write of the command word to CMD (30_encoding.md R111). -/
def HostOp.issue (op : BitVec 8) : HostOp :=
  .wr .cmd (commandWord op 0)

/-- `FINAL r` (30_encoding.md R111). -/
def HostOp.final (r : BitVec 3) : HostOp :=
  .wr .cmd (commandWord 0x03 r)

/-- `LOADKEY k0, k1` (30_encoding.md R112). The rule leaves the order of the two writes open; KEY0 first is the model's choice
(DESIGN CHOICE, entry 10). -/
def loadKey (k0 k1 : Word) : List HostOp :=
  [.wr .key0 k0, .wr .key1 k1]

/-- `WAITIDLE` with the variable x, standing at index `here` (30_encoding.md R112). -/
def waitIdle (x here : Nat) : List HostOp :=
  [.rd .status x, .bnz x 0x1 here]

/-- `BLOCK m` (30_encoding.md R112). -/
def block (m : Word) : List HostOp :=
  [.wr .data m, .issue 0x02]

/-- `LAST d, r` (30_encoding.md R112). -/
def lastBlock (d : Word) (r : BitVec 3) : List HostOp :=
  [.wr .data d, .final r]

/-- The value of a host variable, 0 before it is written (entry 10). -/
def varValue (vars : List (Nat × Word)) (x : Nat) : Word :=
  match vars.find? fun entry => entry.1 == x with
  | some entry => entry.2
  | none => 0

/-- xN <- v. -/
def setVar (vars : List (Nat × Word)) (x : Nat) (v : Word) : List (Nat × Word) :=
  (x, v) :: vars.filter fun entry => entry.1 != x

/-- The request an operation keeps at the port until it is performed; a branch makes none (30_encoding.md R111). -/
def HostOp.request : HostOp → Option Request
  | .wr reg imm => some (registerRequest reg (.write imm))
  | .rd reg _ => some (registerRequest reg .read)
  | .bnz _ _ _ => none
  | .bz _ _ _ => none

/-- What the host does with the answer of the cycle: it goes on when its transaction was performed, or branches. -/
def hostAdvance (op : HostOp) (answer : Answer) (sys : System) : System :=
  match op, answer with
  | .wr _ _, .written => { sys with index := sys.index + 1 }
  | .rd _ x, .returned bytes => { sys with index := sys.index + 1, vars := setVar sys.vars x (le64 bytes) }
  | .bnz x mask label, _ => { sys with index := if varValue sys.vars x &&& mask ≠ 0 then label else sys.index + 1 }
  | .bz x mask label, _ => { sys with index := if varValue sys.vars x &&& mask = 0 then label else sys.index + 1 }
  | _, _ => sys

/-- One cycle of the engine with the host's operation at its port; past the end of the program the host does nothing. A reset of the
engine leaves the host as it is: the operation it abandons stands at the port again in the next cycle, stalls while the reset is
asserted, and is performed after the release (DESIGN CHOICE, entry 10; 70_reset_and_hazards.md R280 is silent on the host). -/
def System.step (sys : System) : Host.Outcome System Fault Refusal :=
  match sys.program[sys.index]? with
  | none =>
    match Sys2Proof.Machine.step { sys.engine with port := [] } with
    | .next t => .next { sys with engine := t }
    | .fault f => .fault f
    | .refused r => .refused r
  | some op =>
    match Sys2Proof.Machine.step { sys.engine with port := op.request.toList } with
    | .next t => .next (hostAdvance op t.answer { sys with engine := t })
    | .fault f => .fault f
    | .refused r => .refused r

/-- k cycles of the engine and its host. -/
def System.run : Nat → System → Host.Outcome System Fault Refusal
  | 0, sys => .next sys
  | k + 1, sys =>
    match sys.step with
    | .next t => t.run k
    | .fault f => .fault f
    | .refused r => .refused r

end Sys2Proof.Machine
end

