-- ==== Sys2Proof/Machine/Platform.lean ====
section
/-! DEFINITION. The platform in front of the port: it routes `MemRead(BASE + off, n)` and `MemWrite(BASE + off, n, v)` to the
window (00_scope.md R16, 20_memory.md R75, R82). BASE is an argument (00_scope.md R11). -/

namespace Sys2Proof.Machine

/-- The window offset of an access whose every byte lies in the window, none for any other (20_memory.md R75). -/
def windowOffset (p : Config.Platform) (addr : Nat) (size : AccessSize) : Option (BitVec 6) :=
  if p.base ≤ addr ∧ addr + size.bytes ≤ p.base + Config.windowBytes then some (BitVec.ofNat 6 (addr - p.base)) else none

/-- A host access to a platform address: in the window it joins the requests at the port, last; any other is the platform's and
gets no meaning (20_memory.md R75, 92_eei_decisions.md D40; entry 8). -/
def hostAccess (p : Config.Platform) (addr : Nat) (size : AccessSize) (access : Access) (s : State) : Result :=
  match windowOffset p addr size with
  | some off => .next { s with port := s.port ++ [{ off := off, size := size, access := access }] }
  | none => .refused .outsideWindow

end Sys2Proof.Machine
end

