-- ==== Sys2Proof/Safety.lean ====
section
/-! DEFINITION. The terms the claims use: the invariants of 10_state.md R39 and R56, what the host can see, and runs without a
reset. -/

namespace Sys2Proof.Machine

/-- The state invariants (a) to (e) of 10_state.md R56, with those of LEN in R39. (a) and (e) hold by the types: PHASE has three
values, and BUSY is computed from INFLIGHT. -/
abbrev StateInv (s : State) : Prop :=
  (s.err = false → s.errcode = 0) ∧
  (s.err = true → 1 ≤ s.errcode.toNat ∧ s.errcode.toNat ≤ 6) ∧
  (s.phase = .idle → s.v = SipState.zero ∧ s.len = 0 ∧ s.tag = 0) ∧
  (s.phase = .absorbing → s.tag = 0 ∧ s.len.toNat % 8 = 0 ∧ s.len.toNat ≤ 2 ^ 64 - 8)

/-- Nothing of a finished job stays: V is zero but in an open job, and a key word that is not loaded is zero
(10_state.md R33, R34, R35; 92_eei_decisions.md D19). -/
abbrev SecretsWiped (s : State) : Prop :=
  (s.phase ≠ .absorbing → s.v = SipState.zero) ∧
  (s.k0ld = false → s.key0 = 0) ∧
  (s.k1ld = false → s.key1 = 0)

/-- The secrets of a state replaced: V, KEY0, KEY1 and DATA, the items no host transaction can read (10_state.md R54). -/
def withSecrets (v : SipState) (key0 key1 data : Word) (s : State) : State :=
  { s with v := v, key0 := key0, key1 := key1, data := data }

/-- The reset input is released and stays so. -/
abbrev NoReset (s : State) : Prop :=
  s.rst = false ∧ ∀ c ∈ s.inputs, c.rst = false

/-- Every request at the port and still to come lies in the window: "The engine sees only accesses whose every byte lies in offsets
0x00 to 0x3F" (20_memory.md R75). -/
abbrev RoutedByPlatform (s : State) : Prop :=
  (∀ r ∈ s.port, r.inWindow = true) ∧ ∀ c ∈ s.inputs, ∀ r ∈ c.request, r.inWindow = true

/-- The environment brings nothing: no reset and no request (41_commands.md R182, "no other transaction between its steps"). -/
abbrev QuietInputs (s : State) : Prop :=
  s.rst = false ∧ ∀ c ∈ s.inputs, c = { rst := false, request := none }

/-- The event of the next step. -/
def nextEvent (s : State) : Event :=
  selectEvent (sampleInputs s)

/-- The event clears ERR or leaves the job: a reset, or the completion of INIT or ABORT (60_exceptions.md R247). -/
def clearsError : Event → Bool
  | .reset => true
  | .complete w => decodeCommand w == .instr .init || decodeCommand w == .instr .abort
  | .request _ => false
  | .quiet => false

/-- k steps of the machine (Host/Core.lean's run). -/
def run (k : Nat) (s : State) : Result :=
  Host.Core.run Sys2Proof.core k s

/-- The host sequence of one job (41_commands.md R182), d the word before FINAL. -/
def jobRequests (key msg : List Byte) (d : Word) : List Request :=
  [registerRequest .key0 (.write (le64 (key.take 8))), registerRequest .key1 (.write (le64 (key.drop 8))),
    registerRequest .cmd (.write 0x1)]
  ++ ((fullChunks msg).flatMap fun m => [registerRequest .data (.write m), registerRequest .cmd (.write 0x2)])
  ++ [registerRequest .data (.write d), registerRequest .cmd (.write (0x3 ||| (remOperand (remainderCount msg) <<< 8)))]

end Sys2Proof.Machine
end

