-- ==== Sys2Proof/Certificates/Slice0/Obligations.lean ====
section
/-! DEFINITION. The statements about the machine, each from the rules its docstring cites. -/

open Sys2Proof Sys2Proof.Machine

/-! ## Encoding -/

/-- 30_encoding.md R113: the encoding examples, and what the decoder says of the words it rejects. -/
def Obligations.DecodesTheEncodingExamples : Prop :=
  decode (.command 0x0000000000000000) = .instr .nop ∧
  decode (.command 0x0000000000000001) = .instr .init ∧
  decode (.command 0x0000000000000002) = .instr .absorb ∧
  decode (.command 0x0000000000000003) = .instr (.final 0) ∧
  decode (.command 0x0000000000000103) = .instr (.final 1) ∧
  decode (.command 0x0000000000000703) = .instr (.final 7) ∧
  decode (.command 0x0000000000000004) = .instr .abort ∧
  decode (.command 0x0000000000000005) = .rejected .illegalOpcode ∧
  decode (.command 0x00000000000000FF) = .rejected .illegalOpcode ∧
  decode (.command 0x0000000000000101) = .rejected .reservedField ∧
  decode (.command 0x0000000000000803) = .rejected .reservedField

/-- 30_encoding.md R109 and the BUS rows of the opcode table: each 7-bit descriptor, with the transaction's data, decodes to its
row's instruction. -/
def Obligations.BusDescriptorsNameTheirAccess : Prop :=
  ∀ v : Word,
    decode (.bus (descriptorRequest 0b1000000 v)) = .instr (.wrKey0 v) ∧
    decode (.bus (descriptorRequest 0b1001000 v)) = .instr (.wrKey1 v) ∧
    decode (.bus (descriptorRequest 0b1010000 v)) = .instr (.wrData v) ∧
    decode (.bus (descriptorRequest 0b1011000 v)) = .instr (.wrCmd v) ∧
    decode (.bus (descriptorRequest 0b1100000 v)) = .instr (.wrStatus v) ∧
    decode (.bus (descriptorRequest 0b1101000 v)) = .instr (.wrTag v) ∧
    decode (.bus (descriptorRequest 0b1110000 v)) = .instr (.wrMsglen v) ∧
    decode (.bus (descriptorRequest 0b1111000 v)) = .instr (.wrId v) ∧
    decode (.bus (descriptorRequest 0b0000000 v)) = .instr .rdKey0 ∧
    decode (.bus (descriptorRequest 0b0001000 v)) = .instr .rdKey1 ∧
    decode (.bus (descriptorRequest 0b0010000 v)) = .instr .rdData ∧
    decode (.bus (descriptorRequest 0b0011000 v)) = .instr .rdCmd ∧
    decode (.bus (descriptorRequest 0b0100000 v)) = .instr .rdStatus ∧
    decode (.bus (descriptorRequest 0b0101000 v)) = .instr .rdTag ∧
    decode (.bus (descriptorRequest 0b0110000 v)) = .instr .rdMsglen ∧
    decode (.bus (descriptorRequest 0b0111000 v)) = .instr .rdId

/-- 30_encoding.md R110: `Decode(w)` over the numbers of its fields, and the 12 words that decode to a command. -/
def Obligations.CommandDecodingFollowsItsTable : Prop :=
  (∀ w : Word,
    decode (.command w) =
      (let op := w.toNat % 256
       let rem := w.toNat / 256 % 8
       let rsv := w.toNat / 2048
       if 5 ≤ op then .rejected .illegalOpcode
       else if rsv ≠ 0 then .rejected .reservedField
       else if op ≠ 3 ∧ rem ≠ 0 then .rejected .reservedField
       else if op = 0 then .instr .nop
       else if op = 1 then .instr .init
       else if op = 2 then .instr .absorb
       else if op = 3 then .instr (.final (BitVec.ofNat 3 rem))
       else .instr .abort)) ∧
  (∀ w : Word, (∃ i, decode (.command w) = .instr i) ↔
    w.toNat ∈ [0x0, 0x1, 0x2, 0x4, 0x003, 0x103, 0x203, 0x303, 0x403, 0x503, 0x603, 0x703])

/-- Decoding and encoding agree on all instructions, with every operand at every value, and each instruction has one encoding
(30_encoding.md R101, R109, R110; 10_state.md R48). -/
def Obligations.DecodeAndEncodeAgree : Prop :=
  ∀ (e : Encoded) (i : Instr), decode e = .instr i ↔ e = encode i

/-- 30_encoding.md R109, 20_memory.md R74 and R79: a bus request is a register access exactly when it is an aligned access of
8 bytes. -/
def Obligations.ExactlyAlignedEightByteAccessesDecode : Prop :=
  ∀ r : Request, (∃ i, decode (.bus r) = .instr i) ↔ (r.size = .eight ∧ r.off.toNat % 8 = 0)

/-- The model's `withFetchWord` (log entry 5): the next step runs the row that `decodeTableWord` reads, and nothing more, where no
STATUS read stands at the port (a STATUS read is performed right after a completion, log entry 3). -/
def Obligations.FetchWordRunsTheTableRow : Prop :=
  ∀ (s : State) (nbits w : Nat) (i : Instr), s.port.head? ≠ some (registerRequest .status .read) →
    decodeTableWord nbits w = some i →
    step (s.withFetchWord nbits w) = exec i (sampleInputs (s.withFetchWord nbits w))

/-! ## Datapath -/

/-- 00_scope.md R14: `LE64` is the sum over j of bj * 2^(8j), and `LEBYTES`, byte j being w[8j+7:8j], is its inverse;
40_datapath.md R140: its example. -/
def Obligations.LittleEndianBytesInvert : Prop :=
  (∀ b0 b1 b2 b3 b4 b5 b6 b7 : Byte,
    (le64 [b0, b1, b2, b3, b4, b5, b6, b7]).toNat =
      b0.toNat + b1.toNat * 2 ^ 8 + b2.toNat * 2 ^ 16 + b3.toNat * 2 ^ 24 + b4.toNat * 2 ^ 32 + b5.toNat * 2 ^ 40
        + b6.toNat * 2 ^ 48 + b7.toNat * 2 ^ 56 ∧
    leBytes (le64 [b0, b1, b2, b3, b4, b5, b6, b7]) = [b0, b1, b2, b3, b4, b5, b6, b7]) ∧
  (∀ w : Word, (leBytes w).length = 8 ∧ (∀ j < 8, (leBytes w)[j]? = some (BitVec.ofNat 8 (w.toNat / 256 ^ j))) ∧
    le64 (leBytes w) = w) ∧
  leBytes 0x726fdb47dd0e0e31 = [0x31, 0x0e, 0x0e, 0xdd, 0x47, 0xdb, 0x6f, 0x72]

/-- 40_datapath.md R130: the initial state, its corner cases and its example. -/
def Obligations.InitXorsKeyWithConstants : Prop :=
  (∀ k0 k1 : Word, initState k0 k1 =
    { v0 := k0 ^^^ 0x736f6d6570736575, v1 := k1 ^^^ 0x646f72616e646f6d, v2 := k0 ^^^ 0x6c7967656e657261,
      v3 := k1 ^^^ 0x7465646279746573 }) ∧
  initState 0 0 =
    { v0 := 0x736f6d6570736575, v1 := 0x646f72616e646f6d, v2 := 0x6c7967656e657261, v3 := 0x7465646279746573 } ∧
  initState (BitVec.allOnes 64) (BitVec.allOnes 64) =
    { v0 := ~~~0x736f6d6570736575, v1 := ~~~0x646f72616e646f6d, v2 := ~~~0x6c7967656e657261, v3 := ~~~0x7465646279746573 } ∧
  initState 0x0706050403020100 0x0f0e0d0c0b0a0908 =
    { v0 := 0x7469686173716475, v1 := 0x6b617f6d656e6665, v2 := 0x6b7f62616d677361, v3 := 0x7b6b696e727e6c7b }

/-- 40_datapath.md R132: rotl64 moves bit i to bit (i + n) mod 64, for every n from 1 to 63, and loses none. -/
def Obligations.RotationMovesEveryBit : Prop :=
  ∀ (x : Word) (n i : Nat), 0 < n → n < 64 → i < 64 → (rotl64 x n).getLsbD ((i + n) % 64) = x.getLsbD i

/-- 40_datapath.md R131: SipRound statement by statement, over numbers modulo 2^64 and the library's rotation, with its fixed
point and its example; additions wrap. -/
def Obligations.SipRoundFollowsItsStatements : Prop :=
  (∀ a b c d : Word,
    let a1 := BitVec.ofNat 64 (a.toNat + b.toNat)
    let b1 := b.rotateLeft 13 ^^^ a1
    let a2 := a1.rotateLeft 32
    let c1 := BitVec.ofNat 64 (c.toNat + d.toNat)
    let d1 := d.rotateLeft 16 ^^^ c1
    let a3 := BitVec.ofNat 64 (a2.toNat + d1.toNat)
    let d2 := d1.rotateLeft 21 ^^^ a3
    let c2 := BitVec.ofNat 64 (c1.toNat + b1.toNat)
    let b2 := b1.rotateLeft 17 ^^^ c2
    sipRound { v0 := a, v1 := b, v2 := c, v3 := d } = { v0 := a3, v1 := b2, v2 := c2.rotateLeft 32, v3 := d2 }) ∧
  sipRound { v0 := 0, v1 := 0, v2 := 0, v3 := 0 } = { v0 := 0, v1 := 0, v2 := 0, v3 := 0 } ∧
  sipRound { v0 := 1, v1 := 0, v2 := 0, v3 := 0 } =
    { v0 := 0x0000000100000000, v1 := 0x0000000000020001, v2 := 0x0000000100000000, v3 := 0x0000000100000000 }

/-- 40_datapath.md R131 case (a) with R133: "The all-zero state is a fixed point of one round, and so of any number of
rounds." -/
def Obligations.ZeroStateIsFixedByRounds : Prop :=
  ∀ n : Nat, rounds SipState.zero n = SipState.zero

/-- 40_datapath.md R134: the absorber in terms of SipRound, its corner cases and its example. -/
def Obligations.AbsorbIsTwoRoundsBetweenXors : Prop :=
  (∀ (v : SipState) (m : Word),
    let w := sipRound (sipRound { v with v3 := v.v3 ^^^ m })
    absorbBlock v m = { w with v0 := w.v0 ^^^ m }) ∧
  (∀ v : SipState, absorbBlock v 0 = rounds v 2) ∧
  absorbBlock SipState.zero 0 = SipState.zero ∧
  absorbBlock { v0 := 0x7469686173716475, v1 := 0x6b617f6d656e6665, v2 := 0x6b7f62616d677361, v3 := 0x7b6b696e727e6c7b }
      0x0706050403020100 =
    { v0 := 0x4a017198de0a59e0, v1 := 0x0d52f6f62a4f59a4, v2 := 0x634cb3577b01fd3d, v3 := 0xa5224d6f55c7d9c8 }

/-- 40_datapath.md R136: every byte of the pad word: byte j of DATA below r, L mod 256 in byte 7, zero between; the example. -/
def Obligations.PadWordByteByByte : Prop :=
  (∀ (d : Word) (r : BitVec 3) (l : Word) (j : Nat), j < 8 →
    byteOf (padWord d r l) j =
      if j < r.toNat then byteOf d j else if j = 7 then BitVec.ofNat 8 (l.toNat % 256) else 0) ∧
  (∀ d l : Word, padWord d 0 l = BitVec.ofNat 64 (l.toNat % 256 * 2 ^ 56)) ∧
  padWord 0xFFFFFFFFFF020100 3 3 = 0x0300000000020100

/-- 40_datapath.md R139: the finalizer in terms of SipRound, its corner case and its example. -/
def Obligations.FinalizeMixesFourRounds : Prop :=
  (∀ v : SipState,
    let w := sipRound (sipRound (sipRound (sipRound { v with v2 := v.v2 ^^^ 0xff })))
    finalizeState v = w ∧ finalizeTag v = w.v0 ^^^ w.v1 ^^^ w.v2 ^^^ w.v3) ∧
  finalizeTag SipState.zero = 0x3c4ceb5cc070daa0 ∧
  finalizeTag { v0 := 0x75126fd44af190b6, v1 := 0x084235164f06142b, v2 := 0x37b04f9f8026831d, v3 := 0x1b4678cde8253231 } =
    0x726fdb47dd0e0e31

/-- 95_test_vectors.md L1-1, the source's reference vector, and T-HASH-5 (40_datapath.md R141). -/
def Obligations.HashesTheReferenceVectors : Prop :=
  sipHash24 [0x00, 0x01, 0x02, 0x03, 0x04, 0x05, 0x06, 0x07, 0x08, 0x09, 0x0a, 0x0b, 0x0c, 0x0d, 0x0e, 0x0f] [] =
    [0x31, 0x0e, 0x0e, 0xdd, 0x47, 0xdb, 0x6f, 0x72] ∧
  sipHash24 [0x0f, 0x0e, 0x0d, 0x0c, 0x0b, 0x0a, 0x09, 0x08, 0x07, 0x06, 0x05, 0x04, 0x03, 0x02, 0x01, 0x00]
      [0x61, 0x62, 0x63] =
    [0xa6, 0x95, 0x5a, 0x69, 0xa2, 0x84, 0x55, 0xb3]

/-! ## Commands

`exec` of a command is its completion (log entry 1). -/

/-- 41_commands.md R163: NOP completes in every state, with no effect but that INFLIGHT is empty. -/
def Obligations.NopCompletesWithoutEffect : Prop :=
  ∀ s : State, exec .nop s = .next { s with inflight := none }

/-- 41_commands.md R168: INIT with both key words loaded, in any phase and whatever ERR; everything else is unchanged. -/
def Obligations.InitOpensAJob : Prop :=
  ∀ s : State, s.k0ld = true → s.k1ld = true →
    exec .init s = .next
      { s with
        v := { v0 := s.key0 ^^^ 0x736f6d6570736575, v1 := s.key1 ^^^ 0x646f72616e646f6d,
               v2 := s.key0 ^^^ 0x6c7967656e657261, v3 := s.key1 ^^^ 0x7465646279746573 }
        len := 0, tag := 0, phase := .absorbing, err := false, errcode := 0, inflight := none }

/-- 41_commands.md R168 and 60_exceptions.md R241 line 6, R243: INIT without both key words records KEY_NOT_LOADED, unless an
error is already recorded, and changes nothing else. -/
def Obligations.InitNeedsBothKeyWords : Prop :=
  ∀ s : State, s.k0ld = false ∨ s.k1ld = false →
    exec .init s = .next { s with inflight := none, err := true, errcode := if s.err then s.errcode else 6 }

/-- 41_commands.md R171: ABSORB in an open job without error and with room in LEN; everything else is unchanged. -/
def Obligations.AbsorbTakesTheDataWord : Prop :=
  ∀ s : State, s.err = false → s.phase = .absorbing → s.len.toNat ≤ 2 ^ 64 - 9 →
    exec .absorb s = .next { s with v := absorbBlock s.v s.data, len := s.len + 8, inflight := none }

/-- 60_exceptions.md R241 lines 3 to 5 for ABSORB, R242: discarded under ERR; BAD_SEQUENCE; LENGTH_OVERFLOW. -/
def Obligations.AbsorbFailsItsChecks : Prop :=
  ∀ s : State,
    (s.err = true → exec .absorb s = .next { s with inflight := none }) ∧
    (s.err = false → s.phase ≠ .absorbing →
      exec .absorb s = .next { s with inflight := none, err := true, errcode := 3 }) ∧
    (s.err = false → s.phase = .absorbing → s.len.toNat > 2 ^ 64 - 9 →
      exec .absorb s = .next { s with inflight := none, err := true, errcode := 4 })

/-- 41_commands.md R175: FINAL r in an open job without error: the tag of the padded state, LEN + r, DONE, and the wipe;
everything else is unchanged. -/
def Obligations.FinalTakesTheTagAndWipes : Prop :=
  ∀ (s : State) (r : BitVec 3), s.err = false → s.phase = .absorbing →
    exec (.final r) s = .next
      { s with
        tag := finalizeTag (absorbBlock s.v (padWord s.data r (s.len + r.setWidth 64)))
        len := s.len + r.setWidth 64, phase := .done, v := { v0 := 0, v1 := 0, v2 := 0, v3 := 0 },
        key0 := 0, key1 := 0, data := 0, k0ld := false, k1ld := false, inflight := none }

/-- 60_exceptions.md R241 lines 3 and 4 for FINAL, R242: discarded under ERR; BAD_SEQUENCE. -/
def Obligations.FinalFailsItsChecks : Prop :=
  ∀ (s : State) (r : BitVec 3),
    (s.err = true → exec (.final r) s = .next { s with inflight := none }) ∧
    (s.err = false → s.phase ≠ .absorbing →
      exec (.final r) s = .next { s with inflight := none, err := true, errcode := 3 })

/-- 41_commands.md R180: ABORT, in every state, gives the reset state of 10_state.md R55 in every item; the interface and the
model's own fields are unchanged. -/
def Obligations.AbortGivesTheResetState : Prop :=
  ∀ s : State, exec .abort s = .next
    { State.reset with
      rst := s.rst, port := s.port, answer := s.answer, inputs := s.inputs, latencies := s.latencies, issued := s.issued }

/-- 60_exceptions.md R241 and 41_commands.md R161, R164: the completion of any word in flight, check by check in priority order,
over the numbers of its fields. A failing command changes nothing but ERR, ERRCODE and INFLIGHT (60_exceptions.md R243). -/
def Obligations.CompletionChecksInPriorityOrder : Prop :=
  ∀ (s : State) (w : Word),
    completeWord w s =
      (let op := w.toNat % 256
       let rem := w.toNat / 256 % 8
       let rsv := w.toNat / 2048
       let fails := fun code : BitVec 4 =>
         { s with inflight := none, err := true, errcode := if s.err then s.errcode else code }
       if 5 ≤ op then .next (fails 1)
       else if rsv ≠ 0 ∨ (op ≠ 3 ∧ rem ≠ 0) then .next (fails 2)
       else if (op = 2 ∨ op = 3) ∧ s.err = true then .next { s with inflight := none }
       else if (op = 2 ∨ op = 3) ∧ s.phase ≠ .absorbing then .next (fails 3)
       else if op = 2 ∧ s.len.toNat > 2 ^ 64 - 9 then .next (fails 4)
       else if op = 1 ∧ (s.k0ld = false ∨ s.k1ld = false) then .next (fails 6)
       else if op = 0 then .next { s with inflight := none }
       else if op = 1 then .next { performInit s with inflight := none }
       else if op = 2 then .next { performAbsorb s with inflight := none }
       else if op = 3 then .next { performFinal (BitVec.ofNat 3 rem) s with inflight := none }
       else .next { performAbort s with inflight := none })

/-! ## Register accesses -/

/-- 42_register_access.md R200, R202 and R204: the writes of KEY0, KEY1 and DATA, in every phase and under ERR; everything else is
unchanged but the port and its answer. -/
def Obligations.KeyAndDataWritesTakeTheWord : Prop :=
  ∀ (s : State) (v : Word), s.inflight = none →
    exec (.wrKey0 v) s = .next { s with key0 := v, k0ld := true, port := s.port.tail, answer := .written } ∧
    exec (.wrKey1 v) s = .next { s with key1 := v, k1ld := true, port := s.port.tail, answer := .written } ∧
    exec (.wrData v) s = .next { s with data := v, port := s.port.tail, answer := .written }

/-- 42_register_access.md R206: a CMD write puts the word in flight, whatever it is. Its LAT is the first of `latencies`, and
the free value where there is none (log entry 2, the model's choice): the statement holds for every value of it. -/
def Obligations.CommandWriteIssuesTheWord : Prop :=
  ∀ (s : State) (w : Word), s.inflight = none →
    ∃ lat : Nat,
      exec (.wrCmd w) s = .next
        { s with
          inflight := some { word := w, left := lat }, latencies := s.latencies.tail, issued := s.issued + 1,
          port := s.port.tail, answer := .written } ∧
      (∀ n l, s.latencies = n :: l → lat = n)

/-- 42_register_access.md R208: a write to STATUS, TAG, MSGLEN or ID records BAD_ACCESS, unless an error is already recorded, and
changes nothing else but the port and its answer; the value is ignored. -/
def Obligations.WritesToReadOnlyRegistersRecordBadAccess : Prop :=
  ∀ (s : State) (v : Word), s.inflight = none →
    ∀ i ∈ [Instr.wrStatus v, Instr.wrTag v, Instr.wrMsglen v, Instr.wrId v],
      exec i s = .next
        { s with err := true, errcode := if s.err then s.errcode else 5, port := s.port.tail, answer := .written }

/-- 42_register_access.md R210: KEY0, KEY1, DATA and CMD read as eight zero bytes, with no effect. -/
def Obligations.WriteOnlyRegistersReadZero : Prop :=
  ∀ s : State, s.inflight = none →
    ∀ i ∈ [Instr.rdKey0, Instr.rdKey1, Instr.rdData, Instr.rdCmd],
      exec i s = .next { s with port := s.port.tail, answer := .returned [0, 0, 0, 0, 0, 0, 0, 0] }

/-- 42_register_access.md R212 and 10_state.md R49: STATUS is read in every state, a command in flight or not, and its value as a
number is the sum of its fields, so bits 63:10 are 0. -/
def Obligations.StatusReadsItsFieldsAndNeverStalls : Prop :=
  ∀ s : State, ∃ w : Word,
    w.toNat = s.k1ld.toNat * 512 + s.k0ld.toNat * 256 + s.errcode.toNat * 16 + s.err.toNat * 8
      + (match s.phase with | .idle => 0 | .absorbing => 1 | .done => 2) * 2 + s.inflight.isSome.toNat ∧
    exec .rdStatus s = .next { s with port := s.port.tail, answer := .returned (leBytes w) }

/-- 42_register_access.md R214, R216 and R218: TAG, MSGLEN and ID return TAG, LEN and the constant, little-endian, with no
effect. -/
def Obligations.ReadOnlyRegistersReadTheirValue : Prop :=
  ∀ s : State, s.inflight = none →
    exec .rdTag s = .next { s with port := s.port.tail, answer := .returned (leBytes s.tag) } ∧
    exec .rdMsglen s = .next { s with port := s.port.tail, answer := .returned (leBytes s.len) } ∧
    exec .rdId s = .next
      { s with port := s.port.tail, answer := .returned [0x02, 0x04, 0x01, 0x00, 0x48, 0x50, 0x49, 0x53] }

/-- 20_memory.md R80: while a command is in flight, every transaction but an aligned 8-byte STATUS read stalls: the request stays
at the port and nothing changes. (A request outside the window is no transaction of the engine, R75.) -/
def Obligations.TransactionsStallBehindACommand : Prop :=
  ∀ (s : State) (r : Request), s.inflight ≠ none → r.inWindow = true → r ≠ registerRequest .status .read →
    serveRequest r s = .next { s with answer := .stalled }

/-- 20_memory.md R74: an access in the window that is not an aligned one of 8 bytes. Such a write records BAD_ACCESS and changes no
register; such a read of n bytes returns n zero bytes and records nothing. -/
def Obligations.NarrowAndMisalignedAccessesAreIneffective : Prop :=
  ∀ (s : State) (r : Request), s.inflight = none → r.inWindow = true → ¬(r.size = .eight ∧ r.off.toNat % 8 = 0) →
    (r.access = .read →
      serveRequest r s = .next
        { s with port := s.port.tail, answer := .returned (List.replicate r.size.bytes 0) }) ∧
    (∀ v, r.access = .write v →
      serveRequest r s = .next
        { s with err := true, errcode := if s.err then s.errcode else 5, port := s.port.tail, answer := .written })

/-- A request with a byte outside the window is refused by name, as 92_eei_decisions.md D40 and 93_implementation_defined.md P4 ask
of a model; 20_memory.md R75 leaves open what becomes of it. That it is refused at the port, in every state, also behind a command,
and that the read of 95_test_vectors.md T-BUS-10 is refused too, is the model's choice (log entry 7). -/
def Obligations.CrossingRequestsAreRefused : Prop :=
  ∀ (s : State) (r : Request), r.inWindow = false →
    serveRequest r s = .refused .outsideWindow ∧
    (nextEvent s = .request r → step s = .refused .outsideWindow)

/-- 20_memory.md R77: a read of any offset and size in the window changes nothing but the port and its answer, and the same read
again gives the same answer. -/
def Obligations.ReadsHaveNoEffect : Prop :=
  ∀ (s : State) (r : Request), r.inWindow = true → r.access = .read →
    ∃ a : Answer, ∃ p : List Request, serveRequest r s = .next { s with port := p, answer := a } ∧
      ∃ q : List Request, serveRequest r { s with port := p, answer := a } = .next { s with port := q, answer := a }

/-! ## The step -/

/-- A step serves the request at the head of the port: where no reset is asserted and no command is due, and the request decodes
to i, the step is exec of i (20_memory.md R81, 60_exceptions.md R250). That the step also takes one off the cycles left to a command
in flight is the model's count (log entries 2 and 3; the spec counts no cycles). -/
def Obligations.StepRunsTheRequestedAccess : Prop :=
  ∀ (s : State) (r : Request) (rest : List Request) (i : Instr),
    (sampleInputs s).rst = false → (∀ w, s.inflight ≠ some { word := w, left := 0 }) →
    (sampleInputs s).port = r :: rest → decode (.bus r) = .instr i →
    step s = exec i
      { sampleInputs s with inflight := s.inflight.map fun f => { word := f.word, left := f.left - 1 } }

/-- A step completes the command in flight when its LAT has passed: where no reset is asserted and the word decodes to i, the
step is exec of i, whatever waits at the port (41_commands.md R160); but a STATUS read at the port, which never stalls
(42_register_access.md R212), is performed in the same cycle, after it (the model's choice, log entry 3). -/
def Obligations.StepRunsTheCommandInFlight : Prop :=
  ∀ (s : State) (w : Word) (i : Instr),
    (sampleInputs s).rst = false → s.inflight = some { word := w, left := 0 } → decode (.command w) = .instr i →
    ((sampleInputs s).port.head? ≠ some (registerRequest .status .read) → step s = exec i (sampleInputs s)) ∧
    (∀ rest, (sampleInputs s).port = registerRequest .status .read :: rest →
      ∃ t, exec i (sampleInputs s) = .next t ∧
        step s = .next { t with port := rest, answer := .returned (leBytes (statusWord t)) })

/-- A cycle's inputs: the arriving request joins the port last, a reset that becomes asserted abandons the requests at the port,
and a request that is there and not yet served waits; past the end of `inputs` nothing arrives and the reset input keeps its level
(70_reset_and_hazards.md R280, R281; the model's choice, log entries 4 and 6). -/
def Obligations.InputsReachThePort : Prop :=
  (∀ s : State, s.inputs = [] →
    sampleInputs s = { s with answer := if s.port = [] then .idle else .stalled }) ∧
  ∀ (s : State) (c : CycleInput) (rest : List CycleInput),
    s.inputs = c :: rest →
    ∃ p : List Request,
      (c.rst = true ∧ s.rst = false → p = c.request.toList) ∧
      (¬(c.rst = true ∧ s.rst = false) → p = s.port ++ c.request.toList) ∧
      sampleInputs s =
        { s with rst := c.rst, port := p, inputs := rest, answer := if p = [] then .idle else .stalled }

/-- 70_reset_and_hazards.md R280: with the reset input asserted, in this cycle's inputs or held past their end, every item of
10_state.md R55 has its reset value after the step, and the command in flight is abandoned. What stands at the port stalls; when
the reset has just been asserted, that is at most the request that arrived with it (the model's choice, log entry 6). That
the reset leaves the model's own `inputs`, `latencies` and `issued` is its choice too (log entries 2 and 4). -/
def Obligations.ResetClearsEveryItem : Prop :=
  ∀ s : State, (sampleInputs s).rst = true →
    step s = .next
      { State.reset with
        rst := true, inputs := s.inputs.tail, latencies := s.latencies, issued := s.issued,
        port := (sampleInputs s).port, answer := if (sampleInputs s).port = [] then .idle else .stalled } ∧
    (s.rst = false → ∃ c rest, s.inputs = c :: rest ∧ (sampleInputs s).port = c.request.toList)

/-- 10_state.md R55: the reset state, item by item; STATUS reads 0. -/
def Obligations.ResetStateIsAsListed : Prop :=
  State.reset.v = { v0 := 0, v1 := 0, v2 := 0, v3 := 0 } ∧ State.reset.key0 = 0 ∧ State.reset.key1 = 0 ∧
  State.reset.data = 0 ∧ State.reset.k0ld = false ∧ State.reset.k1ld = false ∧ State.reset.len = 0 ∧
  State.reset.tag = 0 ∧ State.reset.phase = .idle ∧ State.reset.inflight = none ∧ State.reset.err = false ∧
  State.reset.errcode = 0 ∧ idWord = 0x5349504800010402 ∧ statusWord State.reset = 0

/-- 60_exceptions.md R246 and 70_reset_and_hazards.md R281: no step of the engine stops, from any state whose requests the platform
routed (20_memory.md R75); a step stops only where the request it serves lies outside the window (that it stops there is the
model's choice, log entry 7). -/
def Obligations.EveryStepGivesAState : Prop :=
  (∀ s : State, RoutedByPlatform s → ∃ t : State, step s = .next t) ∧
  (∀ s : State, (∀ r, nextEvent s = .request r → r.inWindow = true) → ∃ t : State, step s = .next t)

/-- 20_memory.md R75: the platform's accesses and every step keep that the requests at the port and still to come lie in the
window. The platform, which refuses every other access, is the model's (log entry 8). -/
def Obligations.RequestsStayInTheWindow : Prop :=
  (∀ s t : State, RoutedByPlatform s → step s = .next t → RoutedByPlatform t) ∧
  (∀ (p : Config.Platform) (addr : Nat) (size : AccessSize) (access : Access) (s t : State), RoutedByPlatform s →
    hostAccess p addr size access s = .next t → RoutedByPlatform t)

/-- 41_commands.md R160 (3), 20_memory.md R80 and 10_state.md R49: while cycles of LAT are left (log entries 2 and 3) and no reset
comes, a step changes nothing but the count and the answer; only an aligned STATUS read leaves the port, and it returns STATUS. -/
def Obligations.NothingMovesWhileACommandIsInFlight : Prop :=
  ∀ (s : State) (w : Word) (n : Nat), (sampleInputs s).rst = false → s.inflight = some { word := w, left := n + 1 } →
    (∀ r rest, (sampleInputs s).port = r :: rest → r = registerRequest .status .read →
      step s = .next
        { sampleInputs s with
          inflight := some { word := w, left := n }, port := rest, answer := .returned (leBytes (statusWord s)) }) ∧
    ((∀ r rest, (sampleInputs s).port = r :: rest → r ≠ registerRequest .status .read ∧ r.inWindow = true) →
      step s = .next { sampleInputs s with inflight := some { word := w, left := n } })

/-! ## Whole-machine rules -/

/-- 10_state.md R56 and R39, the wipe of 92_eei_decisions.md D19, and 20_memory.md R75 hold right after reset. R75 holds there
because `port` and `inputs` are empty, which is the model's choice (log entries 4 and 6). -/
def Obligations.ResetMeetsTheInvariants : Prop :=
  StateInv State.reset ∧ SecretsWiped State.reset ∧ RoutedByPlatform State.reset

/-- 10_state.md R56 and R39: every step keeps the invariants of ERR and ERRCODE, of the phases, and of LEN. -/
def Obligations.EveryStepKeepsTheStateInvariants : Prop :=
  ∀ s t : State, StateInv s → step s = .next t → StateInv t

/-- 92_eei_decisions.md D19 (10_state.md R33, R34, R35, R37): every step keeps that V is zero outside an open job and that a key
word not loaded is zero. -/
def Obligations.EveryStepKeepsSecretsWiped : Prop :=
  ∀ s t : State, SecretsWiped s → step s = .next t → SecretsWiped t

/-- 10_state.md R42: PHASE after any step. A reset, and the completion of INIT, of FINAL in an open job and of ABORT, where it raised
no error and was not discarded, change it; nothing else does. -/
def Obligations.PhaseFollowsItsTransitionTable : Prop :=
  ∀ s t : State, step s = .next t →
    t.phase =
      match nextEvent s with
      | .reset => .idle
      | .complete w =>
        if decode (.command w) = .instr .init ∧ s.k0ld = true ∧ s.k1ld = true then .absorbing
        else if (∃ r, decode (.command w) = .instr (.final r)) ∧ s.phase = .absorbing ∧ s.err = false then .done
        else if decode (.command w) = .instr .abort then .idle
        else s.phase
      | .request _ => s.phase
      | .quiet => s.phase

/-- 10_state.md R33: only INIT, ABSORB, FINAL, ABORT and reset write V, and what each writes. -/
def Obligations.OnlyTheseEventsWriteV : Prop :=
  ∀ s t : State, step s = .next t → t.v ≠ s.v →
    (nextEvent s = .reset ∧ t.v = SipState.zero) ∨
    ∃ w : Word, nextEvent s = .complete w ∧
      ((decode (.command w) = .instr .init ∧ t.v = initState s.key0 s.key1) ∨
       (decode (.command w) = .instr .absorb ∧ s.phase = .absorbing ∧ t.v = absorbBlock s.v s.data) ∨
       (∃ r, decode (.command w) = .instr (.final r) ∧ t.v = SipState.zero) ∨
       (decode (.command w) = .instr .abort ∧ t.v = SipState.zero))

/-- 10_state.md R40 and 41_commands.md R176: only FINAL writes a nonzero TAG; INIT, ABORT and reset clear it; nothing else
changes it. -/
def Obligations.OnlyFinalWritesATag : Prop :=
  ∀ s t : State, step s = .next t → t.tag ≠ s.tag →
    (t.tag = 0 ∧ (nextEvent s = .reset ∨ ∃ w : Word, nextEvent s = .complete w ∧
      (decode (.command w) = .instr .init ∨ decode (.command w) = .instr .abort))) ∨
    ∃ (w : Word) (r : BitVec 3), nextEvent s = .complete w ∧ decode (.command w) = .instr (.final r) ∧ t.phase = .done

/-- 10_state.md R34, R35 and R37: a key word and its loaded flag change only by the write of that register, which sets the flag,
and by FINAL, ABORT and reset, which clear both. -/
def Obligations.OnlyTheseEventsChangeTheKey : Prop :=
  ∀ s t : State, step s = .next t → (t.key0, t.k0ld, t.key1, t.k1ld) ≠ (s.key0, s.k0ld, s.key1, s.k1ld) →
    ((t.key0, t.k0ld, t.key1, t.k1ld) = (0, false, 0, false) ∧
      (nextEvent s = .reset ∨ ∃ w : Word, nextEvent s = .complete w ∧
        ((∃ r, decode (.command w) = .instr (.final r)) ∨ decode (.command w) = .instr .abort))) ∨
    (∃ v : Word, nextEvent s = .request (registerRequest .key0 (.write v)) ∧
      (t.key0, t.k0ld, t.key1, t.k1ld) = (v, true, s.key1, s.k1ld)) ∨
    (∃ v : Word, nextEvent s = .request (registerRequest .key1 (.write v)) ∧
      (t.key0, t.k0ld, t.key1, t.k1ld) = (s.key0, s.k0ld, v, true))

/-- 60_exceptions.md R247 (with R248; 10_state.md R45, R46): a recorded error stays, with its code, until INIT completes, into a new
job, or ABORT, into IDLE, or a reset. -/
def Obligations.ARecordedErrorStays : Prop :=
  ∀ s t : State, s.err = true → step s = .next t → (t.err, t.errcode) ≠ (s.err, s.errcode) →
    t.err = false ∧ t.errcode = 0 ∧
    ((nextEvent s = .reset ∧ t.phase = .idle) ∨ ∃ w : Word, nextEvent s = .complete w ∧
      ((decode (.command w) = .instr .init ∧ s.k0ld = true ∧ s.k1ld = true ∧ t.phase = .absorbing ∧
          t.v = initState s.key0 s.key1) ∨
       (decode (.command w) = .instr .abort ∧ t.phase = .idle)))

/-- 60_exceptions.md R242 and R252: over any number of steps in which no INIT or ABORT completes and no reset comes, a state with
an error recorded keeps the error, its phase, V, LEN and TAG: a job with an error never produces a tag. -/
def Obligations.AJobWithAnErrorYieldsNoTag : Prop :=
  ∀ (k : Nat) (s t : State), s.err = true →
    (∀ j < k, ∀ u, run j s = .next u → clearsError (nextEvent u) = false) →
    run k s = .next t →
    t.err = true ∧ t.errcode = s.errcode ∧ t.phase = s.phase ∧ t.v = s.v ∧ t.len = s.len ∧ t.tag = s.tag

/-- 10_state.md R39: LEN never wraps. From a state that meets the invariants a step leaves LEN, or clears it, by a reset or the
completion of INIT or ABORT, or adds 8 at an ABSORB or r at a FINAL r, as numbers. -/
def Obligations.LenNeverWraps : Prop :=
  ∀ s t : State, StateInv s → step s = .next t →
    t.len = s.len ∨
    (t.len = 0 ∧ (nextEvent s = .reset ∨ ∃ w : Word, nextEvent s = .complete w ∧
      (decode (.command w) = .instr .init ∨ decode (.command w) = .instr .abort))) ∨
    (∃ w : Word, nextEvent s = .complete w ∧ decode (.command w) = .instr .absorb ∧ t.len.toNat = s.len.toNat + 8) ∨
    (∃ (w : Word) (r : BitVec 3), nextEvent s = .complete w ∧ decode (.command w) = .instr (.final r) ∧
      t.len.toNat = s.len.toNat + r.toNat)

/-- 70_reset_and_hazards.md R289: in a state that meets the invariants a TAG read returns eight zero bytes in every phase but
DONE. -/
def Obligations.TagReadsZeroOutsideDone : Prop :=
  ∀ s t : State, StateInv s → s.inflight = none → s.phase ≠ .done → exec .rdTag s = .next t →
    t.answer = .returned [0, 0, 0, 0, 0, 0, 0, 0]

/-- 10_state.md R54 and 60_exceptions.md R257: V, KEY0, KEY1 and DATA reach the host only as the tag of a FINAL: in any step in
which no word with FINAL's opcode completes, two states that differ only in them do the same but for them. -/
def Obligations.SecretsReachTheHostOnlyAsATag : Prop :=
  ∀ (s t : State) (v : SipState) (key0 key1 data : Word),
    (∀ w : Word, nextEvent s = .complete w → w.toNat % 256 ≠ 3) → step s = .next t →
    ∃ (v' : SipState) (key0' key1' data' : Word),
      step (withSecrets v key0 key1 data s) = .next (withSecrets v' key0' key1' data' t)

/-- 41_commands.md R160 and 00_scope.md R11: with no reset, a command in flight completes, however long its LAT is and whatever
accesses of the window the host makes. That n cycles left are n steps in flight, and the completion one step more, is the model's
count (log entries 2 and 3; the spec counts no cycles). -/
def Obligations.ACommandCompletesAfterItsLatency : Prop :=
  ∀ (s : State) (w : Word) (n : Nat), NoReset s → RoutedByPlatform s → s.inflight = some { word := w, left := n } →
    (∀ k ≤ n, ∃ t, run k s = .next t ∧ t.inflight = some { word := w, left := n - k }) ∧
    ∃ t, run (n + 1) s = .next t ∧ t.inflight = none

/-- 20_memory.md R80, R81: a stalled transaction is always performed, and after the command. With no reset, one that stands at the
port behind a command stays there, unanswered, through the completion; then serving it, in the state the completion left, is the
next step, and it is answered. That the completion is step n + 1 and the transaction waits for step n + 2 is the model's count (log
entries 2 and 3; the spec says only that it is performed after the completion). -/
def Obligations.AStalledTransactionIsPerformed : Prop :=
  ∀ (s : State) (w : Word) (n : Nat) (r : Request) (rest : List Request), NoReset s → RoutedByPlatform s →
    s.inflight = some { word := w, left := n } → s.port = r :: rest → r ≠ registerRequest .status .read →
    (∀ k ≤ n, ∃ t, run (k + 1) s = .next t ∧ t.answer = .stalled ∧ t.port.head? = some r) ∧
    ∃ u v t : State, run n s = .next u ∧ completeWord w (sampleInputs u) = .next v ∧ run (n + 1) s = .next v ∧
      v.inflight = none ∧ run (n + 2) s = serveRequest r (sampleInputs v) ∧ run (n + 2) s = .next t ∧
      (t.answer = .written ∨ ∃ bytes, t.answer = .returned bytes)

/-- 70_reset_and_hazards.md R287 and 95_test_vectors.md T-FLT-1: a STATUS read right behind a CMD write sees the state from before
the command with BUSY = 1, or the one after it with BUSY = 0; both happen, by LAT. Which LAT gives which, and that the read of LAT 0
is performed in the cycle of the completion, is the model's choice (log entries 2 and 3). -/
def Obligations.BusyAsReadDependsOnTheLatency : Prop :=
  ∀ (s : State) (w : Word) (lats : List Nat), QuietInputs s → s.inflight = none →
    s.port = [registerRequest .cmd (.write w), registerRequest .status .read] →
    (∀ n, s.latencies = (n + 1) :: lats →
      ∃ t, run 2 s = .next t ∧ t.answer = .returned (leBytes (statusWord s ||| 1))) ∧
    (s.latencies = 0 :: lats →
      ∃ t u, completeWord w s = .next t ∧ run 2 s = .next u ∧ (statusWord t).getLsbD 0 = false ∧
        u.answer = .returned (leBytes (statusWord t)))

/-- 41_commands.md R182 with 40_datapath.md R141: for every 16-byte key and every message, from any state with no command in
flight, the host sequence of the job ends, whatever the latencies, in DONE without error, with LEN the message's length and TAG
the word whose little-endian bytes are SipHash24(key, msg). -/
def Obligations.AJobComputesSipHash24 : Prop :=
  ∀ (s : State) (key msg : List Byte) (d : Word),
    key.length = 16 → msg.length ≤ 2 ^ 64 - 1 →
    (∀ j < msg.length % 8, some (byteOf d j) = msg[8 * (msg.length / 8) + j]?) →
    QuietInputs s → s.inflight = none → s.port = jobRequests key msg d →
    ∃ (k : Nat) (t : State), run k s = .next t ∧ t.port = [] ∧ t.inflight = none ∧ t.phase = .done ∧ t.err = false ∧
      t.len.toNat = msg.length ∧ leBytes t.tag = sipHash24 key msg

/-- For every BASE (00_scope.md R11), an access whose every byte lies in the window reaches the port at its offset (20_memory.md
R75). R75 leaves any other access open to the platform: that this platform refuses it, and that its addresses are numbers that do
not wrap, is the model's choice (log entry 8; 92_eei_decisions.md D40 and 93_implementation_defined.md P4 have a model refuse). So is
that the access joins the port last. -/
def Obligations.ThePlatformRoutesOnlyTheWindow : Prop :=
  ∀ (p : Config.Platform) (addr : Nat) (size : AccessSize) (access : Access) (s : State), p.wf = true →
    (∀ off : Nat, addr = p.base + off → off + size.bytes ≤ 64 →
      hostAccess p addr size access s = .next
        { s with port := s.port ++ [{ off := BitVec.ofNat 6 off, size := size, access := access }] }) ∧
    (addr < p.base ∨ p.base + 64 < addr + size.bytes → hostAccess p addr size access s = .refused .outsideWindow)

/-- 30_encoding.md R112: `WAITIDLE` ends, however long the command in flight takes, and then no command is in flight and the
variable's BUSY bit is 0. The host's layer is the model's (log entry 10). -/
def Obligations.WaitIdleEndsWithNoCommandInFlight : Prop :=
  ∀ (sys : System) (x here : Nat),
    sys.program[here]? = some (.rd .status x) → sys.program[here + 1]? = some (.bnz x 0x1 here) →
    sys.index = here → QuietInputs sys.engine →
    ∃ (k : Nat) (t : System), sys.run k = .next t ∧ t.index = here + 2 ∧ t.engine.inflight = none ∧
      (varValue t.vars x).getLsbD 0 = false
end

