-- ==== Sys2Proof/Laws/Datapath.lean ====
section
/-! SUPPORT. The byte and mask functions of the datapath, byte by byte and bit by bit. -/

namespace Sys2Proof.Machine

/-- A bit of `mask(k)` is set exactly below k (00_scope.md R13). -/
theorem getLsbD_mask {k : Nat} (j : Nat) (hk : k ≤ 64) : (mask k).getLsbD j = decide (j < k) := by
  simp only [mask, BitVec.getLsbD_ofNat, Nat.testBit_two_pow_sub_one]
  by_cases h : j < k <;> simp [h]
  omega

/-- Byte j of a word, as a number. -/
theorem byteOf_eq_ofNat (w : Word) (j : Nat) : byteOf w j = BitVec.ofNat 8 (w.toNat / 256 ^ j) := by
  rw [← BitVec.toNat_inj]
  simp [byteOf, Nat.shiftRight_eq_div_pow, Nat.pow_mul]

/-- `LE64`, one byte more at the front: the value of the others moves up by eight bits. -/
theorem toNat_le64_cons (b : Byte) {bs : List Byte} {n : Nat} (hn : n < 2 ^ 56) (h : (le64 bs).toNat = n) :
    (le64 (b :: bs)).toNat = b.toNat + n * 256 := by
  have hb := b.isLt
  simp only [le64, BitVec.toNat_or, BitVec.toNat_setWidth, BitVec.toNat_shiftLeft, h]
  rw [Nat.shiftLeft_eq, Nat.mod_eq_of_lt (by omega), Nat.mod_eq_of_lt (by omega), Nat.or_comm]
  have := Nat.two_pow_add_eq_or_of_lt (i := 8) (b := b.toNat) (by omega) n
  rw [show n * 2 ^ 8 = 2 ^ 8 * n by ring, ← this]
  omega

/-- Byte j of `LE64` of a byte string is its j-th byte, and zero past its end (00_scope.md R14). -/
theorem byteOf_le64 (bs : List Byte) (j : Nat) (hj : j < 8) : byteOf (le64 bs) j = (bs[j]?).getD 0 := by
  induction bs generalizing j with
  | nil => simp [le64, byteOf]
  | cons b bs ih =>
    apply BitVec.eq_of_getLsbD_eq
    intro i hi
    simp only [le64, byteOf, BitVec.getLsbD_extractLsb', BitVec.getLsbD_or, BitVec.getLsbD_setWidth,
      BitVec.getLsbD_shiftLeft]
    cases j with
    | zero => simp [hi, show i < 64 by omega]
    | succ j =>
      have := congrArg (fun x => x.getLsbD i) (ih j (by omega))
      simp only [byteOf, BitVec.getLsbD_extractLsb'] at this
      simp only [List.getElem?_cons_succ]
      rw [← this]
      simp [hi, show 8 * (j + 1) + i < 64 by omega, show ¬ (8 * (j + 1) + i < 8) by omega,
        show 8 * (j + 1) + i - 8 = 8 * j + i by omega]
      intro h
      exact absurd (BitVec.lt_of_getLsbD h) (by omega)

/-- A message is its full chunks and a remainder of fewer than eight bytes, which stands at its end (40_datapath.md R135, R136). -/
theorem message_split (msg : List Byte) :
    8 * (fullChunks msg).length + (remainderBytes msg).length = msg.length ∧ (remainderBytes msg).length < 8 ∧
      remainderBytes msg = msg.drop (8 * (fullChunks msg).length) := by
  induction msg using fullChunks.induct with
  | case1 a b c d e f g h rest ih =>
    simp only [fullChunks, remainderBytes, List.length_cons]
    refine ⟨by omega, ih.2.1, ?_⟩
    rw [ih.2.2, show 8 * ((fullChunks rest).length + 1) = 8 * (fullChunks rest).length + 8 by ring]
    simp
  | case2 t h =>
    have h1 : fullChunks t = [] := by rw [fullChunks]; exact h
    have h2 : remainderBytes t = t := by rw [remainderBytes]; exact h
    rw [h1, h2]
    refine ⟨by simp, ?_, by simp⟩
    clear h1 h2
    match t, h with
    | [], _ => simp
    | [_], _ => simp
    | [_, _], _ => simp
    | [_, _, _], _ => simp
    | [_, _, _, _], _ => simp
    | [_, _, _, _, _], _ => simp
    | [_, _, _, _, _, _], _ => simp
    | [_, _, _, _, _, _, _], _ => simp
    | a :: b :: c :: d :: e :: f :: g :: i :: r, h => exact absurd rfl (h a b c d e f g i r)

end Sys2Proof.Machine
end

