-- ==== Sys2Proof/Laws/Decode.lean ====
section
/-! SUPPORT. What the decoder answers, said once for each format. -/

namespace Sys2Proof

/-- The words that decode to a command, with the command. -/
theorem decodeCommand_cases {w : Word} {i : Instr} (h : decodeCommand w = .instr i) :
    rsvdField w = 0 ∧
    ((opcodeField w = 0x00 ∧ remField w = 0 ∧ i = .nop) ∨ (opcodeField w = 0x01 ∧ remField w = 0 ∧ i = .init) ∨
     (opcodeField w = 0x02 ∧ remField w = 0 ∧ i = .absorb) ∨ (opcodeField w = 0x03 ∧ i = .final (remField w)) ∨
     (opcodeField w = 0x04 ∧ remField w = 0 ∧ i = .abort)) := by
  unfold decodeCommand at h
  by_cases h1 : 0x05 ≤ (opcodeField w).toNat
  · simp [h1] at h
  by_cases h2 : rsvdField w = 0#53
  swap
  · simp [h1, h2] at h
  refine ⟨h2, ?_⟩
  have hop : opcodeField w = 0#8 ∨ opcodeField w = 1#8 ∨ opcodeField w = 2#8 ∨ opcodeField w = 3#8 ∨ opcodeField w = 4#8 := by
    simp only [← BitVec.toNat_inj, BitVec.toNat_ofNat]; omega
  rcases hop with e | e | e | e | e <;> by_cases h3 : remField w = 0#3 <;> simp_all

/-- The requests that decode to a register access, with the access. -/
theorem decodeRequest_cases {r : Request} {i : Instr} (h : decodeRequest r = .instr i) :
    ∃ reg, r.size = .eight ∧ Reg.ofOffset r.off = some reg ∧
      ((r.access = .read ∧ i = readInstr reg) ∨ ∃ v, r.access = .write v ∧ i = writeInstr v reg) := by
  obtain ⟨off, size, access⟩ := r
  unfold decodeRequest at h
  cases size <;> cases hreg : Reg.ofOffset off <;> cases access <;> simp_all

/-- A rejected request: outside the window, or in it and a bad read or a bad write. -/
theorem decodeRequest_rejected {r : Request} {why : Reject} (h : decodeRequest r = .rejected why) :
    (r.inWindow = false ∧ why = .outsideWindow) ∨
    (r.inWindow = true ∧ r.access = .read ∧ why = .badRead r.size) ∨
    (r.inWindow = true ∧ (∃ v, r.access = .write v) ∧ why = .badWrite) := by
  unfold decodeRequest at h
  split at h
  · cases h
  · cases h
  · rename_i ha _; cases hw : r.inWindow <;> simp [hw] at h <;> simp [ha, h]
  · rename_i v ha _; cases hw : r.inWindow <;> simp [hw] at h <;> simp [ha, h]

theorem Reg.ofOffset_offset (reg : Reg) : Reg.ofOffset reg.offset = some reg := by
  cases reg <;> rfl

theorem Reg.ofOffset_eq_some {off : BitVec 6} {reg : Reg} (h : Reg.ofOffset off = some reg) : reg.offset = off := by
  simpa using List.find?_some h

/-- The access to a register is effective (10_state.md R48, 20_memory.md R74). -/
theorem registerRequest_effective (reg : Reg) (access : Access) : (registerRequest reg access).effective = true := by
  cases reg <;> simp [registerRequest, Request.effective, Reg.offset]

end Sys2Proof
end

