-- ==== Sys2Proof/Laws/State.lean ====
section
/-! SUPPORT. For each shared update of State, what each field reads after it. -/

namespace Sys2Proof.Machine

/-! ### recordError -/

theorem recordError_eq (code : ErrorCode) (s : State) :
    recordError code s = { s with err := true, errcode := if s.err then s.errcode else code.code } := by
  obtain ⟨_, _, _, _, _, _, _, _, _, _, err, _, _, _, _, _, _, _⟩ := s
  cases err <;> rfl

@[simp] theorem recordError_v (code : ErrorCode) (s : State) : (recordError code s).v = s.v := by rw [recordError_eq]
@[simp] theorem recordError_key0 (code : ErrorCode) (s : State) : (recordError code s).key0 = s.key0 := by rw [recordError_eq]
@[simp] theorem recordError_key1 (code : ErrorCode) (s : State) : (recordError code s).key1 = s.key1 := by rw [recordError_eq]
@[simp] theorem recordError_k0ld (code : ErrorCode) (s : State) : (recordError code s).k0ld = s.k0ld := by rw [recordError_eq]
@[simp] theorem recordError_k1ld (code : ErrorCode) (s : State) : (recordError code s).k1ld = s.k1ld := by rw [recordError_eq]
@[simp] theorem recordError_data (code : ErrorCode) (s : State) : (recordError code s).data = s.data := by rw [recordError_eq]
@[simp] theorem recordError_len (code : ErrorCode) (s : State) : (recordError code s).len = s.len := by rw [recordError_eq]
@[simp] theorem recordError_tag (code : ErrorCode) (s : State) : (recordError code s).tag = s.tag := by rw [recordError_eq]
@[simp] theorem recordError_phase (code : ErrorCode) (s : State) : (recordError code s).phase = s.phase := by rw [recordError_eq]
@[simp] theorem recordError_inflight (code : ErrorCode) (s : State) : (recordError code s).inflight = s.inflight := by rw [recordError_eq]
@[simp] theorem recordError_err (code : ErrorCode) (s : State) : (recordError code s).err = true := by rw [recordError_eq]
@[simp] theorem recordError_errcode (code : ErrorCode) (s : State) : (recordError code s).errcode = if s.err then s.errcode else code.code := by rw [recordError_eq]
@[simp] theorem recordError_rst (code : ErrorCode) (s : State) : (recordError code s).rst = s.rst := by rw [recordError_eq]
@[simp] theorem recordError_port (code : ErrorCode) (s : State) : (recordError code s).port = s.port := by rw [recordError_eq]
@[simp] theorem recordError_answer (code : ErrorCode) (s : State) : (recordError code s).answer = s.answer := by rw [recordError_eq]
@[simp] theorem recordError_inputs (code : ErrorCode) (s : State) : (recordError code s).inputs = s.inputs := by rw [recordError_eq]
@[simp] theorem recordError_latencies (code : ErrorCode) (s : State) : (recordError code s).latencies = s.latencies := by rw [recordError_eq]
@[simp] theorem recordError_issued (code : ErrorCode) (s : State) : (recordError code s).issued = s.issued := by rw [recordError_eq]

/-! ### clearError -/

@[simp] theorem clearError_v (s : State) : (clearError s).v = s.v := rfl
@[simp] theorem clearError_key0 (s : State) : (clearError s).key0 = s.key0 := rfl
@[simp] theorem clearError_key1 (s : State) : (clearError s).key1 = s.key1 := rfl
@[simp] theorem clearError_k0ld (s : State) : (clearError s).k0ld = s.k0ld := rfl
@[simp] theorem clearError_k1ld (s : State) : (clearError s).k1ld = s.k1ld := rfl
@[simp] theorem clearError_data (s : State) : (clearError s).data = s.data := rfl
@[simp] theorem clearError_len (s : State) : (clearError s).len = s.len := rfl
@[simp] theorem clearError_tag (s : State) : (clearError s).tag = s.tag := rfl
@[simp] theorem clearError_phase (s : State) : (clearError s).phase = s.phase := rfl
@[simp] theorem clearError_inflight (s : State) : (clearError s).inflight = s.inflight := rfl
@[simp] theorem clearError_err (s : State) : (clearError s).err = false := rfl
@[simp] theorem clearError_errcode (s : State) : (clearError s).errcode = 0 := rfl
@[simp] theorem clearError_rst (s : State) : (clearError s).rst = s.rst := rfl
@[simp] theorem clearError_port (s : State) : (clearError s).port = s.port := rfl
@[simp] theorem clearError_answer (s : State) : (clearError s).answer = s.answer := rfl
@[simp] theorem clearError_inputs (s : State) : (clearError s).inputs = s.inputs := rfl
@[simp] theorem clearError_latencies (s : State) : (clearError s).latencies = s.latencies := rfl
@[simp] theorem clearError_issued (s : State) : (clearError s).issued = s.issued := rfl

/-! ### closeCommand -/

@[simp] theorem closeCommand_v (s : State) : (closeCommand s).v = s.v := rfl
@[simp] theorem closeCommand_key0 (s : State) : (closeCommand s).key0 = s.key0 := rfl
@[simp] theorem closeCommand_key1 (s : State) : (closeCommand s).key1 = s.key1 := rfl
@[simp] theorem closeCommand_k0ld (s : State) : (closeCommand s).k0ld = s.k0ld := rfl
@[simp] theorem closeCommand_k1ld (s : State) : (closeCommand s).k1ld = s.k1ld := rfl
@[simp] theorem closeCommand_data (s : State) : (closeCommand s).data = s.data := rfl
@[simp] theorem closeCommand_len (s : State) : (closeCommand s).len = s.len := rfl
@[simp] theorem closeCommand_tag (s : State) : (closeCommand s).tag = s.tag := rfl
@[simp] theorem closeCommand_phase (s : State) : (closeCommand s).phase = s.phase := rfl
@[simp] theorem closeCommand_inflight (s : State) : (closeCommand s).inflight = none := rfl
@[simp] theorem closeCommand_err (s : State) : (closeCommand s).err = s.err := rfl
@[simp] theorem closeCommand_errcode (s : State) : (closeCommand s).errcode = s.errcode := rfl
@[simp] theorem closeCommand_rst (s : State) : (closeCommand s).rst = s.rst := rfl
@[simp] theorem closeCommand_port (s : State) : (closeCommand s).port = s.port := rfl
@[simp] theorem closeCommand_answer (s : State) : (closeCommand s).answer = s.answer := rfl
@[simp] theorem closeCommand_inputs (s : State) : (closeCommand s).inputs = s.inputs := rfl
@[simp] theorem closeCommand_latencies (s : State) : (closeCommand s).latencies = s.latencies := rfl
@[simp] theorem closeCommand_issued (s : State) : (closeCommand s).issued = s.issued := rfl

/-! ### zeroizeSecrets -/

@[simp] theorem zeroizeSecrets_v (s : State) : (zeroizeSecrets s).v = SipState.zero := rfl
@[simp] theorem zeroizeSecrets_key0 (s : State) : (zeroizeSecrets s).key0 = 0 := rfl
@[simp] theorem zeroizeSecrets_key1 (s : State) : (zeroizeSecrets s).key1 = 0 := rfl
@[simp] theorem zeroizeSecrets_k0ld (s : State) : (zeroizeSecrets s).k0ld = false := rfl
@[simp] theorem zeroizeSecrets_k1ld (s : State) : (zeroizeSecrets s).k1ld = false := rfl
@[simp] theorem zeroizeSecrets_data (s : State) : (zeroizeSecrets s).data = 0 := rfl
@[simp] theorem zeroizeSecrets_len (s : State) : (zeroizeSecrets s).len = s.len := rfl
@[simp] theorem zeroizeSecrets_tag (s : State) : (zeroizeSecrets s).tag = s.tag := rfl
@[simp] theorem zeroizeSecrets_phase (s : State) : (zeroizeSecrets s).phase = s.phase := rfl
@[simp] theorem zeroizeSecrets_inflight (s : State) : (zeroizeSecrets s).inflight = s.inflight := rfl
@[simp] theorem zeroizeSecrets_err (s : State) : (zeroizeSecrets s).err = s.err := rfl
@[simp] theorem zeroizeSecrets_errcode (s : State) : (zeroizeSecrets s).errcode = s.errcode := rfl
@[simp] theorem zeroizeSecrets_rst (s : State) : (zeroizeSecrets s).rst = s.rst := rfl
@[simp] theorem zeroizeSecrets_port (s : State) : (zeroizeSecrets s).port = s.port := rfl
@[simp] theorem zeroizeSecrets_answer (s : State) : (zeroizeSecrets s).answer = s.answer := rfl
@[simp] theorem zeroizeSecrets_inputs (s : State) : (zeroizeSecrets s).inputs = s.inputs := rfl
@[simp] theorem zeroizeSecrets_latencies (s : State) : (zeroizeSecrets s).latencies = s.latencies := rfl
@[simp] theorem zeroizeSecrets_issued (s : State) : (zeroizeSecrets s).issued = s.issued := rfl

/-! ### issueCommand -/

@[simp] theorem issueCommand_v (w : Word) (s : State) : (issueCommand w s).v = s.v := rfl
@[simp] theorem issueCommand_key0 (w : Word) (s : State) : (issueCommand w s).key0 = s.key0 := rfl
@[simp] theorem issueCommand_key1 (w : Word) (s : State) : (issueCommand w s).key1 = s.key1 := rfl
@[simp] theorem issueCommand_k0ld (w : Word) (s : State) : (issueCommand w s).k0ld = s.k0ld := rfl
@[simp] theorem issueCommand_k1ld (w : Word) (s : State) : (issueCommand w s).k1ld = s.k1ld := rfl
@[simp] theorem issueCommand_data (w : Word) (s : State) : (issueCommand w s).data = s.data := rfl
@[simp] theorem issueCommand_len (w : Word) (s : State) : (issueCommand w s).len = s.len := rfl
@[simp] theorem issueCommand_tag (w : Word) (s : State) : (issueCommand w s).tag = s.tag := rfl
@[simp] theorem issueCommand_phase (w : Word) (s : State) : (issueCommand w s).phase = s.phase := rfl
@[simp] theorem issueCommand_inflight (w : Word) (s : State) : (issueCommand w s).inflight = some { word := w, left := nextLatency s } := rfl
@[simp] theorem issueCommand_err (w : Word) (s : State) : (issueCommand w s).err = s.err := rfl
@[simp] theorem issueCommand_errcode (w : Word) (s : State) : (issueCommand w s).errcode = s.errcode := rfl
@[simp] theorem issueCommand_rst (w : Word) (s : State) : (issueCommand w s).rst = s.rst := rfl
@[simp] theorem issueCommand_port (w : Word) (s : State) : (issueCommand w s).port = s.port := rfl
@[simp] theorem issueCommand_answer (w : Word) (s : State) : (issueCommand w s).answer = s.answer := rfl
@[simp] theorem issueCommand_inputs (w : Word) (s : State) : (issueCommand w s).inputs = s.inputs := rfl
@[simp] theorem issueCommand_latencies (w : Word) (s : State) : (issueCommand w s).latencies = s.latencies.tail := rfl
@[simp] theorem issueCommand_issued (w : Word) (s : State) : (issueCommand w s).issued = s.issued + 1 := rfl

/-! ### stallRequest -/

@[simp] theorem stallRequest_v (s : State) : (stallRequest s).v = s.v := rfl
@[simp] theorem stallRequest_key0 (s : State) : (stallRequest s).key0 = s.key0 := rfl
@[simp] theorem stallRequest_key1 (s : State) : (stallRequest s).key1 = s.key1 := rfl
@[simp] theorem stallRequest_k0ld (s : State) : (stallRequest s).k0ld = s.k0ld := rfl
@[simp] theorem stallRequest_k1ld (s : State) : (stallRequest s).k1ld = s.k1ld := rfl
@[simp] theorem stallRequest_data (s : State) : (stallRequest s).data = s.data := rfl
@[simp] theorem stallRequest_len (s : State) : (stallRequest s).len = s.len := rfl
@[simp] theorem stallRequest_tag (s : State) : (stallRequest s).tag = s.tag := rfl
@[simp] theorem stallRequest_phase (s : State) : (stallRequest s).phase = s.phase := rfl
@[simp] theorem stallRequest_inflight (s : State) : (stallRequest s).inflight = s.inflight := rfl
@[simp] theorem stallRequest_err (s : State) : (stallRequest s).err = s.err := rfl
@[simp] theorem stallRequest_errcode (s : State) : (stallRequest s).errcode = s.errcode := rfl
@[simp] theorem stallRequest_rst (s : State) : (stallRequest s).rst = s.rst := rfl
@[simp] theorem stallRequest_port (s : State) : (stallRequest s).port = s.port := rfl
@[simp] theorem stallRequest_answer (s : State) : (stallRequest s).answer = .stalled := rfl
@[simp] theorem stallRequest_inputs (s : State) : (stallRequest s).inputs = s.inputs := rfl
@[simp] theorem stallRequest_latencies (s : State) : (stallRequest s).latencies = s.latencies := rfl
@[simp] theorem stallRequest_issued (s : State) : (stallRequest s).issued = s.issued := rfl

/-! ### finishRequest -/

@[simp] theorem finishRequest_v (a : Answer) (s : State) : (finishRequest a s).v = s.v := rfl
@[simp] theorem finishRequest_key0 (a : Answer) (s : State) : (finishRequest a s).key0 = s.key0 := rfl
@[simp] theorem finishRequest_key1 (a : Answer) (s : State) : (finishRequest a s).key1 = s.key1 := rfl
@[simp] theorem finishRequest_k0ld (a : Answer) (s : State) : (finishRequest a s).k0ld = s.k0ld := rfl
@[simp] theorem finishRequest_k1ld (a : Answer) (s : State) : (finishRequest a s).k1ld = s.k1ld := rfl
@[simp] theorem finishRequest_data (a : Answer) (s : State) : (finishRequest a s).data = s.data := rfl
@[simp] theorem finishRequest_len (a : Answer) (s : State) : (finishRequest a s).len = s.len := rfl
@[simp] theorem finishRequest_tag (a : Answer) (s : State) : (finishRequest a s).tag = s.tag := rfl
@[simp] theorem finishRequest_phase (a : Answer) (s : State) : (finishRequest a s).phase = s.phase := rfl
@[simp] theorem finishRequest_inflight (a : Answer) (s : State) : (finishRequest a s).inflight = s.inflight := rfl
@[simp] theorem finishRequest_err (a : Answer) (s : State) : (finishRequest a s).err = s.err := rfl
@[simp] theorem finishRequest_errcode (a : Answer) (s : State) : (finishRequest a s).errcode = s.errcode := rfl
@[simp] theorem finishRequest_rst (a : Answer) (s : State) : (finishRequest a s).rst = s.rst := rfl
@[simp] theorem finishRequest_port (a : Answer) (s : State) : (finishRequest a s).port = s.port.tail := rfl
@[simp] theorem finishRequest_answer (a : Answer) (s : State) : (finishRequest a s).answer = a := rfl
@[simp] theorem finishRequest_inputs (a : Answer) (s : State) : (finishRequest a s).inputs = s.inputs := rfl
@[simp] theorem finishRequest_latencies (a : Answer) (s : State) : (finishRequest a s).latencies = s.latencies := rfl
@[simp] theorem finishRequest_issued (a : Answer) (s : State) : (finishRequest a s).issued = s.issued := rfl

/-! ### resetItems -/

@[simp] theorem resetItems_v (s : State) : (resetItems s).v = SipState.zero := rfl
@[simp] theorem resetItems_key0 (s : State) : (resetItems s).key0 = 0 := rfl
@[simp] theorem resetItems_key1 (s : State) : (resetItems s).key1 = 0 := rfl
@[simp] theorem resetItems_k0ld (s : State) : (resetItems s).k0ld = false := rfl
@[simp] theorem resetItems_k1ld (s : State) : (resetItems s).k1ld = false := rfl
@[simp] theorem resetItems_data (s : State) : (resetItems s).data = 0 := rfl
@[simp] theorem resetItems_len (s : State) : (resetItems s).len = 0 := rfl
@[simp] theorem resetItems_tag (s : State) : (resetItems s).tag = 0 := rfl
@[simp] theorem resetItems_phase (s : State) : (resetItems s).phase = .idle := rfl
@[simp] theorem resetItems_inflight (s : State) : (resetItems s).inflight = none := rfl
@[simp] theorem resetItems_err (s : State) : (resetItems s).err = false := rfl
@[simp] theorem resetItems_errcode (s : State) : (resetItems s).errcode = 0 := rfl
@[simp] theorem resetItems_rst (s : State) : (resetItems s).rst = s.rst := rfl
@[simp] theorem resetItems_port (s : State) : (resetItems s).port = s.port := rfl
@[simp] theorem resetItems_answer (s : State) : (resetItems s).answer = s.answer := rfl
@[simp] theorem resetItems_inputs (s : State) : (resetItems s).inputs = s.inputs := rfl
@[simp] theorem resetItems_latencies (s : State) : (resetItems s).latencies = s.latencies := rfl
@[simp] theorem resetItems_issued (s : State) : (resetItems s).issued = s.issued := rfl

/-! ### performInit -/

@[simp] theorem performInit_v (s : State) : (performInit s).v = initState s.key0 s.key1 := rfl
@[simp] theorem performInit_key0 (s : State) : (performInit s).key0 = s.key0 := rfl
@[simp] theorem performInit_key1 (s : State) : (performInit s).key1 = s.key1 := rfl
@[simp] theorem performInit_k0ld (s : State) : (performInit s).k0ld = s.k0ld := rfl
@[simp] theorem performInit_k1ld (s : State) : (performInit s).k1ld = s.k1ld := rfl
@[simp] theorem performInit_data (s : State) : (performInit s).data = s.data := rfl
@[simp] theorem performInit_len (s : State) : (performInit s).len = 0 := rfl
@[simp] theorem performInit_tag (s : State) : (performInit s).tag = 0 := rfl
@[simp] theorem performInit_phase (s : State) : (performInit s).phase = .absorbing := rfl
@[simp] theorem performInit_inflight (s : State) : (performInit s).inflight = s.inflight := rfl
@[simp] theorem performInit_err (s : State) : (performInit s).err = false := rfl
@[simp] theorem performInit_errcode (s : State) : (performInit s).errcode = 0 := rfl
@[simp] theorem performInit_rst (s : State) : (performInit s).rst = s.rst := rfl
@[simp] theorem performInit_port (s : State) : (performInit s).port = s.port := rfl
@[simp] theorem performInit_answer (s : State) : (performInit s).answer = s.answer := rfl
@[simp] theorem performInit_inputs (s : State) : (performInit s).inputs = s.inputs := rfl
@[simp] theorem performInit_latencies (s : State) : (performInit s).latencies = s.latencies := rfl
@[simp] theorem performInit_issued (s : State) : (performInit s).issued = s.issued := rfl

/-! ### performAbsorb -/

@[simp] theorem performAbsorb_v (s : State) : (performAbsorb s).v = absorbBlock s.v s.data := rfl
@[simp] theorem performAbsorb_key0 (s : State) : (performAbsorb s).key0 = s.key0 := rfl
@[simp] theorem performAbsorb_key1 (s : State) : (performAbsorb s).key1 = s.key1 := rfl
@[simp] theorem performAbsorb_k0ld (s : State) : (performAbsorb s).k0ld = s.k0ld := rfl
@[simp] theorem performAbsorb_k1ld (s : State) : (performAbsorb s).k1ld = s.k1ld := rfl
@[simp] theorem performAbsorb_data (s : State) : (performAbsorb s).data = s.data := rfl
@[simp] theorem performAbsorb_len (s : State) : (performAbsorb s).len = s.len + 8 := rfl
@[simp] theorem performAbsorb_tag (s : State) : (performAbsorb s).tag = s.tag := rfl
@[simp] theorem performAbsorb_phase (s : State) : (performAbsorb s).phase = s.phase := rfl
@[simp] theorem performAbsorb_inflight (s : State) : (performAbsorb s).inflight = s.inflight := rfl
@[simp] theorem performAbsorb_err (s : State) : (performAbsorb s).err = s.err := rfl
@[simp] theorem performAbsorb_errcode (s : State) : (performAbsorb s).errcode = s.errcode := rfl
@[simp] theorem performAbsorb_rst (s : State) : (performAbsorb s).rst = s.rst := rfl
@[simp] theorem performAbsorb_port (s : State) : (performAbsorb s).port = s.port := rfl
@[simp] theorem performAbsorb_answer (s : State) : (performAbsorb s).answer = s.answer := rfl
@[simp] theorem performAbsorb_inputs (s : State) : (performAbsorb s).inputs = s.inputs := rfl
@[simp] theorem performAbsorb_latencies (s : State) : (performAbsorb s).latencies = s.latencies := rfl
@[simp] theorem performAbsorb_issued (s : State) : (performAbsorb s).issued = s.issued := rfl

/-! ### performFinal -/

@[simp] theorem performFinal_v (r : BitVec 3) (s : State) : (performFinal r s).v = SipState.zero := rfl
@[simp] theorem performFinal_key0 (r : BitVec 3) (s : State) : (performFinal r s).key0 = 0 := rfl
@[simp] theorem performFinal_key1 (r : BitVec 3) (s : State) : (performFinal r s).key1 = 0 := rfl
@[simp] theorem performFinal_k0ld (r : BitVec 3) (s : State) : (performFinal r s).k0ld = false := rfl
@[simp] theorem performFinal_k1ld (r : BitVec 3) (s : State) : (performFinal r s).k1ld = false := rfl
@[simp] theorem performFinal_data (r : BitVec 3) (s : State) : (performFinal r s).data = 0 := rfl
@[simp] theorem performFinal_len (r : BitVec 3) (s : State) : (performFinal r s).len = s.len + remOperand r := rfl
@[simp] theorem performFinal_tag (r : BitVec 3) (s : State) : (performFinal r s).tag = finalizeTag (absorbBlock s.v (padWord s.data r (s.len + remOperand r))) := rfl
@[simp] theorem performFinal_phase (r : BitVec 3) (s : State) : (performFinal r s).phase = .done := rfl
@[simp] theorem performFinal_inflight (r : BitVec 3) (s : State) : (performFinal r s).inflight = s.inflight := rfl
@[simp] theorem performFinal_err (r : BitVec 3) (s : State) : (performFinal r s).err = s.err := rfl
@[simp] theorem performFinal_errcode (r : BitVec 3) (s : State) : (performFinal r s).errcode = s.errcode := rfl
@[simp] theorem performFinal_rst (r : BitVec 3) (s : State) : (performFinal r s).rst = s.rst := rfl
@[simp] theorem performFinal_port (r : BitVec 3) (s : State) : (performFinal r s).port = s.port := rfl
@[simp] theorem performFinal_answer (r : BitVec 3) (s : State) : (performFinal r s).answer = s.answer := rfl
@[simp] theorem performFinal_inputs (r : BitVec 3) (s : State) : (performFinal r s).inputs = s.inputs := rfl
@[simp] theorem performFinal_latencies (r : BitVec 3) (s : State) : (performFinal r s).latencies = s.latencies := rfl
@[simp] theorem performFinal_issued (r : BitVec 3) (s : State) : (performFinal r s).issued = s.issued := rfl

/-! ### performAbort -/

@[simp] theorem performAbort_v (s : State) : (performAbort s).v = SipState.zero := rfl
@[simp] theorem performAbort_key0 (s : State) : (performAbort s).key0 = 0 := rfl
@[simp] theorem performAbort_key1 (s : State) : (performAbort s).key1 = 0 := rfl
@[simp] theorem performAbort_k0ld (s : State) : (performAbort s).k0ld = false := rfl
@[simp] theorem performAbort_k1ld (s : State) : (performAbort s).k1ld = false := rfl
@[simp] theorem performAbort_data (s : State) : (performAbort s).data = 0 := rfl
@[simp] theorem performAbort_len (s : State) : (performAbort s).len = 0 := rfl
@[simp] theorem performAbort_tag (s : State) : (performAbort s).tag = 0 := rfl
@[simp] theorem performAbort_phase (s : State) : (performAbort s).phase = .idle := rfl
@[simp] theorem performAbort_inflight (s : State) : (performAbort s).inflight = s.inflight := rfl
@[simp] theorem performAbort_err (s : State) : (performAbort s).err = false := rfl
@[simp] theorem performAbort_errcode (s : State) : (performAbort s).errcode = 0 := rfl
@[simp] theorem performAbort_rst (s : State) : (performAbort s).rst = s.rst := rfl
@[simp] theorem performAbort_port (s : State) : (performAbort s).port = s.port := rfl
@[simp] theorem performAbort_answer (s : State) : (performAbort s).answer = s.answer := rfl
@[simp] theorem performAbort_inputs (s : State) : (performAbort s).inputs = s.inputs := rfl
@[simp] theorem performAbort_latencies (s : State) : (performAbort s).latencies = s.latencies := rfl
@[simp] theorem performAbort_issued (s : State) : (performAbort s).issued = s.issued := rfl

/-! ### tick -/

@[simp] theorem tick_v (s : State) : (tick s).v = s.v := rfl
@[simp] theorem tick_key0 (s : State) : (tick s).key0 = s.key0 := rfl
@[simp] theorem tick_key1 (s : State) : (tick s).key1 = s.key1 := rfl
@[simp] theorem tick_k0ld (s : State) : (tick s).k0ld = s.k0ld := rfl
@[simp] theorem tick_k1ld (s : State) : (tick s).k1ld = s.k1ld := rfl
@[simp] theorem tick_data (s : State) : (tick s).data = s.data := rfl
@[simp] theorem tick_len (s : State) : (tick s).len = s.len := rfl
@[simp] theorem tick_tag (s : State) : (tick s).tag = s.tag := rfl
@[simp] theorem tick_phase (s : State) : (tick s).phase = s.phase := rfl
@[simp] theorem tick_inflight (s : State) : (tick s).inflight = s.inflight.map fun f => { f with left := f.left - 1 } := rfl
@[simp] theorem tick_err (s : State) : (tick s).err = s.err := rfl
@[simp] theorem tick_errcode (s : State) : (tick s).errcode = s.errcode := rfl
@[simp] theorem tick_rst (s : State) : (tick s).rst = s.rst := rfl
@[simp] theorem tick_port (s : State) : (tick s).port = s.port := rfl
@[simp] theorem tick_answer (s : State) : (tick s).answer = s.answer := rfl
@[simp] theorem tick_inputs (s : State) : (tick s).inputs = s.inputs := rfl
@[simp] theorem tick_latencies (s : State) : (tick s).latencies = s.latencies := rfl
@[simp] theorem tick_issued (s : State) : (tick s).issued = s.issued := rfl

/-! ### sampleInputs: the architectural items (10_state.md R30) are not touched by a cycle's inputs -/

@[simp] theorem sampleInputs_v (s : State) : (sampleInputs s).v = s.v := by
  unfold sampleInputs; split <;> rfl
@[simp] theorem sampleInputs_key0 (s : State) : (sampleInputs s).key0 = s.key0 := by
  unfold sampleInputs; split <;> rfl
@[simp] theorem sampleInputs_key1 (s : State) : (sampleInputs s).key1 = s.key1 := by
  unfold sampleInputs; split <;> rfl
@[simp] theorem sampleInputs_k0ld (s : State) : (sampleInputs s).k0ld = s.k0ld := by
  unfold sampleInputs; split <;> rfl
@[simp] theorem sampleInputs_k1ld (s : State) : (sampleInputs s).k1ld = s.k1ld := by
  unfold sampleInputs; split <;> rfl
@[simp] theorem sampleInputs_data (s : State) : (sampleInputs s).data = s.data := by
  unfold sampleInputs; split <;> rfl
@[simp] theorem sampleInputs_len (s : State) : (sampleInputs s).len = s.len := by
  unfold sampleInputs; split <;> rfl
@[simp] theorem sampleInputs_tag (s : State) : (sampleInputs s).tag = s.tag := by
  unfold sampleInputs; split <;> rfl
@[simp] theorem sampleInputs_phase (s : State) : (sampleInputs s).phase = s.phase := by
  unfold sampleInputs; split <;> rfl
@[simp] theorem sampleInputs_inflight (s : State) : (sampleInputs s).inflight = s.inflight := by
  unfold sampleInputs; split <;> rfl
@[simp] theorem sampleInputs_err (s : State) : (sampleInputs s).err = s.err := by
  unfold sampleInputs; split <;> rfl
@[simp] theorem sampleInputs_errcode (s : State) : (sampleInputs s).errcode = s.errcode := by
  unfold sampleInputs; split <;> rfl
@[simp] theorem sampleInputs_latencies (s : State) : (sampleInputs s).latencies = s.latencies := by
  unfold sampleInputs; split <;> rfl
@[simp] theorem sampleInputs_issued (s : State) : (sampleInputs s).issued = s.issued := by
  unfold sampleInputs; split <;> rfl

end Sys2Proof.Machine
end

