-- ==== Sys2Proof/Laws/Ops.lean ====
section
/-! SUPPORT. For each shared operation, everything it can do. -/

namespace Sys2Proof.Machine

/-! ### STATUS and BUSY -/

theorem busy_iff (s : State) : s.busy = true ↔ ∃ f, s.inflight = some f := by
  simp [State.busy, Option.isSome_iff_exists]

theorem busy_eq_false_iff (s : State) : s.busy = false ↔ s.inflight = none := by
  simp [State.busy]

@[simp] theorem tick_busy (s : State) : (tick s).busy = s.busy := by
  simp [State.busy]

@[simp] theorem sampleInputs_busy (s : State) : (sampleInputs s).busy = s.busy := by
  simp [State.busy]

/-! ### The stall rule -/

theorem performRequest_stalls {s : State} (effect : State → State) (a : Answer) (h : s.busy = true) :
    performRequest effect a s = .next (stallRequest s) := by
  simp [performRequest, h]

theorem performRequest_performs {s : State} (effect : State → State) (a : Answer) (h : s.busy = false) :
    performRequest effect a s = .next (finishRequest a (effect s)) := by
  simp [performRequest, h]

theorem performRequest_cases {effect : State → State} {a : Answer} {s t : State}
    (h : performRequest effect a s = .next t) :
    (s.busy = true ∧ t = stallRequest s) ∨ (s.busy = false ∧ t = finishRequest a (effect s)) := by
  cases hb : s.busy with
  | true => rw [performRequest_stalls effect a hb] at h; cases h; exact .inl ⟨rfl, rfl⟩
  | false => rw [performRequest_performs effect a hb] at h; cases h; exact .inr ⟨rfl, rfl⟩

/-! ### Completion -/

theorem completeWith_cases {verdict : Verdict} {perform : State → State} {s t : State}
    (h : completeWith verdict perform s = .next t) :
    (∃ code, verdict = .error code ∧ t = closeCommand (recordError code s)) ∨
    (verdict = .discard ∧ t = closeCommand s) ∨
    (verdict = .execute ∧ t = closeCommand (perform s)) := by
  cases verdict <;> cases h <;> simp

theorem jobCheck_execute {s : State} : jobCheck s = .execute ↔ s.err = false ∧ s.phase = .absorbing := by
  unfold jobCheck; cases s.err <;> cases s.phase <;> simp

theorem absorbCheck_execute {s : State} :
    absorbCheck s = .execute ↔ s.err = false ∧ s.phase = .absorbing ∧ s.len.toNat ≤ 2 ^ 64 - 9 := by
  unfold absorbCheck jobCheck
  cases s.err <;> cases s.phase <;> simp

theorem initCheck_execute {s : State} : initCheck s = .execute ↔ s.k0ld = true ∧ s.k1ld = true := by
  unfold initCheck; cases s.k0ld <;> cases s.k1ld <;> simp

end Sys2Proof.Machine
end

