-- ==== Sys2Proof/Laws/PerInstr.lean ====
section
/-! SUPPORT. One lemma for each instruction: its encoding is a row of the opcode table. -/

namespace Sys2Proof.Laws.EncodingWf

/-- The instruction's encoding is well formed, whatever its operands. -/
def Statement (i : Instr) : Prop :=
  (encode i).wf = true

theorem nop : Statement .nop := rfl
theorem init : Statement .init := rfl
theorem absorb : Statement .absorb := rfl
theorem final (r : BitVec 3) : Statement (.final r) := by
  unfold Statement; revert r; decide
theorem abort : Statement .abort := rfl
theorem wrKey0 (v : Word) : Statement (.wrKey0 v) := registerRequest_effective _ _
theorem wrKey1 (v : Word) : Statement (.wrKey1 v) := registerRequest_effective _ _
theorem wrData (v : Word) : Statement (.wrData v) := registerRequest_effective _ _
theorem wrCmd (w : Word) : Statement (.wrCmd w) := registerRequest_effective _ _
theorem wrStatus (v : Word) : Statement (.wrStatus v) := registerRequest_effective _ _
theorem wrTag (v : Word) : Statement (.wrTag v) := registerRequest_effective _ _
theorem wrMsglen (v : Word) : Statement (.wrMsglen v) := registerRequest_effective _ _
theorem wrId (v : Word) : Statement (.wrId v) := registerRequest_effective _ _
theorem rdKey0 : Statement .rdKey0 := registerRequest_effective _ _
theorem rdKey1 : Statement .rdKey1 := registerRequest_effective _ _
theorem rdData : Statement .rdData := registerRequest_effective _ _
theorem rdCmd : Statement .rdCmd := registerRequest_effective _ _
theorem rdStatus : Statement .rdStatus := registerRequest_effective _ _
theorem rdTag : Statement .rdTag := registerRequest_effective _ _
theorem rdMsglen : Statement .rdMsglen := registerRequest_effective _ _
theorem rdId : Statement .rdId := registerRequest_effective _ _

end Sys2Proof.Laws.EncodingWf
end

