-- ==== Sys2Proof/Laws/Run.lean ====
section
/-! SUPPORT. Runs: one step at the front, and one run after another. -/

namespace Sys2Proof.Machine

theorem run_zero (s : State) : run 0 s = .next s := rfl

/-- A run's first step. -/
theorem run_succ {k : Nat} {s t : State} (h : step s = .next t) : run (k + 1) s = run k t := by
  have h' : Sys2Proof.core.step s = .next t := h
  simp only [run, Host.Core.run, h']
  rfl

/-- The first step of a run that answers. -/
theorem run_succ_cases {k : Nat} {s t : State} (h : run (k + 1) s = .next t) :
    ∃ u, step s = .next u ∧ run k u = .next t := by
  cases hs : step s with
  | next u => exact ⟨u, rfl, (run_succ hs) ▸ h⟩
  | fault f => cases f
  | refused r =>
    have h' : Sys2Proof.core.step s = .refused r := hs
    simp only [run, Host.Core.run, h'] at h
    cases h

/-- A run of j steps, then one of k. -/
theorem run_add {j k : Nat} {s t : State} (h : run j s = .next t) : run (j + k) s = run k t := by
  induction j generalizing s with
  | zero => rw [run_zero] at h; cases h; simp
  | succ j ih =>
    obtain ⟨u, hu, hr⟩ := run_succ_cases h
    rw [show j + 1 + k = (j + k) + 1 by omega, run_succ hu, ih hr]

/-- A system's first cycle. -/
theorem System.run_succ {k : Nat} {s t : System} (h : s.step = .next t) : s.run (k + 1) = t.run k := by
  show (match s.step with | .next t => t.run k | .fault f => .fault f | .refused r => .refused r) = _
  rw [h]

end Sys2Proof.Machine
end

