-- ==== Sys2Proof/Laws/Step.lean ====
section
/-! SUPPORT. Everything a step can do: the event it serves, and the state each event gives. -/

namespace Sys2Proof.Machine

/-- The request r, served, leaves the state as one of these (20_memory.md R74, R80; 42_register_access.md). -/
inductive Served (r : Request) (s : State) : State → Prop where
  /-- It stalls behind a command in flight (20_memory.md R80). -/
  | stalls (h : s.busy = true) : Served r s (stallRequest s)
  /-- A read, with the bytes it returns; STATUS may be read while a command is in flight. -/
  | reads (bytes : List Byte) (ha : r.access = .read) : Served r s (finishRequest (.returned bytes) s)
  /-- A write that sets KEY0. -/
  | setsKey0 (v : Word) (hd : decodeRequest r = .instr (.wrKey0 v)) (h : s.busy = false) : Served r s (finishRequest .written { s with key0 := v, k0ld := true })
  /-- A write that sets KEY1. -/
  | setsKey1 (v : Word) (hd : decodeRequest r = .instr (.wrKey1 v)) (h : s.busy = false) : Served r s (finishRequest .written { s with key1 := v, k1ld := true })
  /-- A write that sets DATA. -/
  | setsData (v : Word) (hd : decodeRequest r = .instr (.wrData v)) (h : s.busy = false) : Served r s (finishRequest .written { s with data := v })
  /-- A write that issues a command. -/
  | issues (w : Word) (hd : decodeRequest r = .instr (.wrCmd w)) (h : s.busy = false) : Served r s (finishRequest .written (issueCommand w s))
  /-- A write that only records BAD_ACCESS. -/
  | badAccess (v : Word) (hw : r.access = .write v) (h : s.busy = false) : Served r s (finishRequest .written (recordError .badAccess s))

/-- The completion of the word w leaves the state as one of these (41_commands.md R161). -/
inductive Completed (w : Word) (s : State) : State → Prop where
  /-- An error is recorded. -/
  | fails (code : ErrorCode) : Completed w s (closeCommand (recordError code s))
  /-- NOP, or a discarded command. -/
  | nothing : Completed w s (closeCommand s)
  /-- INIT with both key words loaded. -/
  | inits (hw : decodeCommand w = .instr .init) (h0 : s.k0ld = true) (h1 : s.k1ld = true) : Completed w s (closeCommand (performInit s))
  /-- ABSORB in an open job without error and with room in LEN. -/
  | absorbs (hw : decodeCommand w = .instr .absorb) (he : s.err = false) (hp : s.phase = .absorbing) (hl : s.len.toNat ≤ 2 ^ 64 - 9) :
      Completed w s (closeCommand (performAbsorb s))
  /-- FINAL in an open job without error. -/
  | finals (r : BitVec 3) (hw : decodeCommand w = .instr (.final r)) (he : s.err = false) (hp : s.phase = .absorbing) :
      Completed w s (closeCommand (performFinal r s))
  /-- ABORT. -/
  | aborts (hw : decodeCommand w = .instr .abort) : Completed w s (closeCommand (performAbort s))

theorem completed_of_completeWord {w : Word} {s t : State} (h : completeWord w s = .next t) : Completed w s t := by
  unfold completeWord at h
  split at h
  · rename_i i hd
    replace hd : decodeCommand w = .instr i := hd
    obtain ⟨-, c⟩ := decodeCommand_cases hd
    rcases c with ⟨-, -, rfl⟩ | ⟨-, -, rfl⟩ | ⟨-, -, rfl⟩ | ⟨-, rfl⟩ | ⟨-, -, rfl⟩ <;>
      simp only [exec, execNop, execInit, execAbsorb, execFinal, execAbort] at h <;>
      obtain ⟨code, -, rfl⟩ | ⟨-, rfl⟩ | ⟨hv, rfl⟩ := completeWith_cases h
    all_goals try exact .fails _
    all_goals try exact .nothing
    · exact .inits hd (initCheck_execute.mp hv).1 (initCheck_execute.mp hv).2
    · have hv := absorbCheck_execute.mp hv
      exact .absorbs hd hv.1 hv.2.1 hv.2.2
    · exact .finals _ hd (jobCheck_execute.mp hv).1 (jobCheck_execute.mp hv).2
    · exact .aborts hd
  · rename_i why _
    unfold completeRejected at h
    split at h <;> cases h
    · exact .fails _
    · exact .nothing

theorem served_of_performRead {r : Request} {reg : Reg} {s t : State} (ha : r.access = .read)
    (h : performRead reg s = .next t) : Served r s t := by
  obtain ⟨hb, rfl⟩ | ⟨-, rfl⟩ := performRequest_cases h
  · exact .stalls hb
  · exact .reads _ ha

theorem served_of_badWrite {r : Request} {v : Word} {s t : State} (ha : r.access = .write v)
    (h : badWrite s = .next t) : Served r s t := by
  obtain ⟨hb, rfl⟩ | ⟨hb, rfl⟩ := performRequest_cases h
  · exact .stalls hb
  · exact .badAccess v ha hb

theorem served_of_serveRequest {r : Request} {s t : State} (h : serveRequest r s = .next t) : Served r s t := by
  unfold serveRequest at h
  split at h
  · rename_i i hd
    replace hd : decodeRequest r = .instr i := hd
    obtain ⟨reg, -, -, ⟨ha, rfl⟩ | ⟨v, ha, rfl⟩⟩ := decodeRequest_cases hd
    · cases reg <;> first | (cases h; exact .reads _ ha) | exact served_of_performRead ha h
    · cases reg <;> first | exact served_of_badWrite ha h | skip
      all_goals simp only [writeInstr, exec, execWrKey0, execWrKey1, execWrData, execWrCmd, performWrite] at h
      all_goals obtain ⟨hb, rfl⟩ | ⟨hb, rfl⟩ := performRequest_cases h
      all_goals try exact .stalls hb
      · exact .setsKey0 v hd hb
      · exact .setsKey1 v hd hb
      · exact .setsData v hd hb
      · exact .issues v hd hb
  · rename_i size hd
    obtain ⟨-, hw⟩ | ⟨-, ha, -⟩ | ⟨-, -, hw⟩ := decodeRequest_rejected hd
    · cases hw
    · obtain ⟨hb, rfl⟩ | ⟨-, rfl⟩ := performRequest_cases h
      · exact .stalls hb
      · exact .reads _ ha
    · cases hw
  · cases h
  · rename_i why hne hno hd
    obtain ⟨-, hw⟩ | ⟨-, -, hw⟩ | ⟨-, ⟨v, ha⟩, -⟩ := decodeRequest_rejected hd
    · exact absurd hw hno
    · exact absurd hw (hne _)
    · exact served_of_badWrite ha h

/-- What a step does, by its event. -/
inductive Stepped (s : State) : State → Prop where
  /-- The reset input is asserted. -/
  | reset (hr : s.rst = true) : Stepped s (resetItems s)
  /-- The command in flight completes. -/
  | completes {t : State} (w : Word) (hr : s.rst = false) (hf : s.inflight = some { word := w, left := 0 })
      (h : Completed w s t) (hp : t.port.head? ≠ some statusRead) : Stepped s t
  /-- The command in flight completes, and a STATUS read at the port is performed after it. -/
  | completesAndReads {t : State} (w : Word) (hr : s.rst = false) (hf : s.inflight = some { word := w, left := 0 })
      (h : Completed w s t) (hp : t.port.head? = some statusRead) :
      Stepped s (finishRequest (.returned (leBytes (statusWord t))) t)
  /-- A request is served while no command is due. -/
  | serves {t : State} (r : Request) (rest : List Request) (hr : s.rst = false) (hp : s.port = r :: rest)
      (hf : ∀ w, s.inflight ≠ some { word := w, left := 0 }) (hs : serveRequest r (tick s) = .next t)
      (h : Served r (tick s) t) : Stepped s t
  /-- Nothing but the passing of a cycle. -/
  | passes (hr : s.rst = false) (hp : s.port = []) (hf : ∀ w, s.inflight ≠ some { word := w, left := 0 }) :
      Stepped s (tick s)

/-- The inversion of the step: every invariant is a case analysis of this. -/
theorem stepped_of_step {s t : State} (h : step s = .next t) : Stepped (sampleInputs s) t := by
  unfold step selectEvent at h
  generalize sampleInputs s = u at h ⊢
  cases hr : u.rst with
  | true =>
    simp only [hr, if_true, serveEvent] at h
    cases h
    exact .reset hr
  | false =>
    simp only [hr, Bool.false_eq_true, if_false] at h
    split at h
    · rename_i w hf
      simp only [serveEvent] at h
      split at h
      · rename_i t hc
        have hc := completed_of_completeWord hc
        unfold readStatusAfter at h
        split at h <;> rename_i hp <;> cases h
        · exact .completesAndReads w hr (by assumption) hc hp
        · exact .completes w hr (by assumption) hc hp
      · cases h
      · cases h
    · rename_i r rest hp hf
      exact .serves r rest hr (by assumption) (fun w e => by simp_all) h (served_of_serveRequest h)
    · cases h
      exact .passes hr (by assumption) (fun w e => by simp_all)

end Sys2Proof.Machine
end

