-- ==== Sys2Proof/Tests/Slice0.lean ====
section
/-! SUPPORT. Small tests, each expected value from spec/ (the rule or vector is named), and a witness for the hypotheses of each
obligation (`witness_<name of the obligation>`). -/

namespace Sys2Proof.Tests

open Sys2Proof Sys2Proof.Machine

/-- The result is a next state with this property. -/
def next (r : Result) (p : State → Bool) : Bool :=
  match r with
  | .next s => p s
  | .fault _ => false
  | .refused _ => false

/-- Key K of 95_test_vectors.md, loaded. -/
def keyed : State :=
  { State.reset with key0 := 0x0706050403020100, key1 := 0x0f0e0d0c0b0a0908, k0ld := true, k1ld := true }

/-- An open job of key K (41_commands.md R168, the example). -/
def openJob : State :=
  { keyed with
    v := { v0 := 0x7469686173716475, v1 := 0x6b617f6d656e6665, v2 := 0x6b7f62616d677361, v3 := 0x7b6b696e727e6c7b }
    phase := .absorbing }

/-- The state after the empty message's job (41_commands.md R175, the example). -/
def doneJob : State :=
  { State.reset with phase := .done, tag := 0x726fdb47dd0e0e31 }

/-- An open job with BAD_ACCESS recorded (T-ERR-19). -/
def failedJob : State :=
  { openJob with err := true, errcode := 5 }

/-- The state with the word w in flight, n cycles left. -/
def flying (w : Word) (n : Nat) (s : State) : State :=
  { s with inflight := some { word := w, left := n } }

/-- An open job with that LEN, and the word w due. -/
def longJob (w len : Word) : State :=
  flying w 0 { openJob with len := len }

/-- The state with these requests at the port. -/
def asking (p : List Request) (s : State) : State :=
  { s with port := p }

/-! ## Ill-formed terms are refused -/

theorem test_reservedOpcode_is_illFormed : commandWordWf 0x5 = false := by decide
theorem test_remOutsideFinal_is_illFormed : commandWordWf 0x101 = false := by decide
theorem test_rsvd_is_illFormed : commandWordWf 0x803 = false := by decide
theorem test_crossingRequest_is_notInWindow : Request.inWindow { off := 0x3c, size := .eight, access := .read } = false := by decide
theorem test_narrowRequest_is_notEffective : Request.effective { off := 0x20, size := .four, access := .read } = false := by decide
theorem test_misalignedRequest_is_notEffective : Request.effective { off := 0x04, size := .eight, access := .read } = false := by
  decide
theorem test_illFormedEncodings : Encoded.wf (.command 0x8000000000000000) = false ∧
    Encoded.wf (.bus { off := 0x3c, size := .eight, access := .read }) = false := by decide
theorem test_misalignedBase_is_illFormed : Config.Platform.wf { base := 0x1008 } = false := by decide

/-! ## Every constructor decoded from bits written out from 30_encoding.md R101 (RSVD, REM, OPCODE) and R109 (W, OFF) -/

theorem test_decode_nop : decode (.command (0#53 ++ 0b000#3 ++ 0b00000000#8)) = .instr .nop := by decide
theorem test_decode_init : decode (.command (0#53 ++ 0b000#3 ++ 0b00000001#8)) = .instr .init := by decide
theorem test_decode_absorb : decode (.command (0#53 ++ 0b000#3 ++ 0b00000010#8)) = .instr .absorb := by decide
theorem test_decode_final : decode (.command (0#53 ++ 0b101#3 ++ 0b00000011#8)) = .instr (.final 5) := by decide
theorem test_decode_abort : decode (.command (0#53 ++ 0b000#3 ++ 0b00000100#8)) = .instr .abort := by decide
theorem test_decode_wrKey0 : decode (.bus (descriptorRequest 0b1000000 7)) = .instr (.wrKey0 7) := by decide
theorem test_decode_wrKey1 : decode (.bus (descriptorRequest 0b1001000 7)) = .instr (.wrKey1 7) := by decide
theorem test_decode_wrData : decode (.bus (descriptorRequest 0b1010000 7)) = .instr (.wrData 7) := by decide
theorem test_decode_wrCmd : decode (.bus (descriptorRequest 0b1011000 7)) = .instr (.wrCmd 7) := by decide
theorem test_decode_wrStatus : decode (.bus (descriptorRequest 0b1100000 7)) = .instr (.wrStatus 7) := by decide
theorem test_decode_wrTag : decode (.bus (descriptorRequest 0b1101000 7)) = .instr (.wrTag 7) := by decide
theorem test_decode_wrMsglen : decode (.bus (descriptorRequest 0b1110000 7)) = .instr (.wrMsglen 7) := by decide
theorem test_decode_wrId : decode (.bus (descriptorRequest 0b1111000 7)) = .instr (.wrId 7) := by decide
theorem test_decode_rdKey0 : decode (.bus (descriptorRequest 0b0000000 0)) = .instr .rdKey0 := by decide
theorem test_decode_rdKey1 : decode (.bus (descriptorRequest 0b0001000 0)) = .instr .rdKey1 := by decide
theorem test_decode_rdData : decode (.bus (descriptorRequest 0b0010000 0)) = .instr .rdData := by decide
theorem test_decode_rdCmd : decode (.bus (descriptorRequest 0b0011000 0)) = .instr .rdCmd := by decide
theorem test_decode_rdStatus : decode (.bus (descriptorRequest 0b0100000 0)) = .instr .rdStatus := by decide
theorem test_decode_rdTag : decode (.bus (descriptorRequest 0b0101000 0)) = .instr .rdTag := by decide
theorem test_decode_rdMsglen : decode (.bus (descriptorRequest 0b0110000 0)) = .instr .rdMsglen := by decide
theorem test_decode_rdId : decode (.bus (descriptorRequest 0b0111000 0)) = .instr .rdId := by decide

/-- The table's numbering: bit 7 of a descriptor's byte is no bit of the descriptor, and a command word has 64 bits. -/
theorem test_decodeTableWord : decodeTableWord 8 0x40 = some (.wrKey0 0) ∧ decodeTableWord 8 0xC0 = none ∧
    decodeTableWord 64 0x703 = some (.final 7) ∧ decodeTableWord 64 0x5 = none := by decide

/-! ## One step of each instruction -/

/-- 41_commands.md R163, the example. -/
theorem test_nop : next (exec .nop (flying 0 0 openJob)) (fun t => statusWord t = 0x302 && t == openJob) = true := by decide
/-- 41_commands.md R168, the example. -/
theorem test_init : next (exec .init keyed) (fun t => t.v == openJob.v && statusWord t == 0x302) = true := by decide
/-- T-ERR-14. -/
theorem test_init_keyNotLoaded : next (exec .init { keyed with k1ld := false }) (fun t => statusWord t == 0x168) = true := by decide
/-- 41_commands.md R171, the example. -/
theorem test_absorb : next (exec .absorb { openJob with data := 0x0706050403020100 })
    (fun t => t.v == { v0 := 0x4a017198de0a59e0, v1 := 0x0d52f6f62a4f59a4, v2 := 0x634cb3577b01fd3d, v3 := 0xa5224d6f55c7d9c8 } &&
      t.len == 8) = true := by decide
/-- T-ERR-17. -/
theorem test_absorb_overflow : next (exec .absorb { openJob with len := 0xFFFFFFFFFFFFFFF8 })
    (fun t => statusWord t == 0x34a && t.v == openJob.v && t.len == 0xFFFFFFFFFFFFFFF8) = true := by decide
/-- 41_commands.md R175, the example (L1-1). -/
theorem test_final : next (exec (.final 0) openJob) (fun t => t == doneJob) = true := by decide
/-- T-ERR-18. -/
theorem test_final_longest : next (exec (.final 7) { openJob with len := 0xFFFFFFFFFFFFFFF8 })
    (fun t => t.tag == 0x7e9137290b8adced && t.len == 0xFFFFFFFFFFFFFFFF && statusWord t == 0x004) = true := by decide
/-- T-ERR-23. -/
theorem test_abort : next (exec .abort failedJob) (fun t => t == State.reset) = true := by decide
/-- T-BUS-14. -/
theorem test_wrKey0 : next (exec (.wrKey0 0) State.reset) (fun t => statusWord t == 0x100) = true := by decide
/-- T-BUS-13. -/
theorem test_wrKey1 : next (exec (.wrKey1 0x0f0e0d0c0b0a0908) { keyed with key1 := 0, k1ld := false })
    (fun t => statusWord t == 0x300 && t.key1 == 0x0f0e0d0c0b0a0908) = true := by decide
/-- 42_register_access.md R204, the example. -/
theorem test_wrData : next (exec (.wrData 0x000e0d0c0b0a0908) State.reset) (fun t => t.data == 0x000e0d0c0b0a0908) = true := by
  decide
/-- 42_register_access.md R206, the example. -/
theorem test_wrCmd : next (exec (.wrCmd 0x1) { State.reset with latencies := [3] })
    (fun t => t.inflight == some { word := 0x1, left := 3 } && statusWord t == 0x001) = true := by decide
/-- T-FLT-5: the second CMD write waits. -/
theorem test_wrCmd_stalls : next (exec (.wrCmd 0x2) (flying 0x2 1 openJob)) (fun t => t == { flying 0x2 1 openJob with answer := .stalled }) =
    true := by decide
/-- 42_register_access.md R208, the example (T-ERR-27). -/
theorem test_wrStatus : next (exec (.wrStatus 0) openJob) (fun t => statusWord t == 0x35a && t.v == openJob.v) = true := by decide
/-- T-ERR-24. -/
theorem test_wrTag : next (exec (.wrTag 1) State.reset) (fun t => statusWord t == 0x058 && t.tag == 0) = true := by decide
/-- 42_register_access.md R208. -/
theorem test_wrMsglen : next (exec (.wrMsglen 1) State.reset) (fun t => statusWord t == 0x058 && t.len == 0) = true := by decide
/-- 60_exceptions.md R243: the first error is kept. -/
theorem test_wrId : next (exec (.wrId 1) { State.reset with err := true, errcode := 3 }) (fun t => statusWord t == 0x038) = true := by
  decide
/-- T-BUS-3. -/
theorem test_rdKey0 : next (exec .rdKey0 { State.reset with key0 := 0x1234 }) (fun t => t.answer == .returned (leBytes 0)) = true := by
  decide
/-- 42_register_access.md R210. -/
theorem test_rdKey1 : next (exec .rdKey1 keyed) (fun t => t.answer == .returned (leBytes 0)) = true := by decide
/-- T-BUS-4. -/
theorem test_rdData : next (exec .rdData { State.reset with data := 0x1234 }) (fun t => t.answer == .returned (leBytes 0)) = true := by
  decide
/-- T-BUS-11. -/
theorem test_rdCmd : next (exec .rdCmd State.reset) (fun t => t.answer == .returned (leBytes 0)) = true := by decide
/-- T-BUS-5. -/
theorem test_rdStatus : next (exec .rdStatus keyed) (fun t => t.answer == .returned [0x00, 0x03, 0, 0, 0, 0, 0, 0]) = true := by decide
/-- T-FLT-1: behind a CMD write, before the command's completion. -/
theorem test_rdStatus_busy : next (exec .rdStatus (flying 0x1 0 keyed))
    (fun t => t.answer == .returned [0x01, 0x03, 0, 0, 0, 0, 0, 0]) = true := by decide
/-- T-BUS-8. -/
theorem test_rdTag : next (exec .rdTag doneJob)
    (fun t => t.answer == .returned [0x31, 0x0e, 0x0e, 0xdd, 0x47, 0xdb, 0x6f, 0x72]) = true := by decide
/-- T-BUS-6. -/
theorem test_rdMsglen : next (exec .rdMsglen { openJob with len := 8 })
    (fun t => t.answer == .returned [0x08, 0, 0, 0, 0, 0, 0, 0]) = true := by decide
/-- T-BUS-2. -/
theorem test_rdId : next (exec .rdId State.reset)
    (fun t => t.answer == .returned [0x02, 0x04, 0x01, 0x00, 0x48, 0x50, 0x49, 0x53]) = true := by decide

/-! ## One step around an instruction -/

/-- T-BUS-9. -/
theorem test_badRead : next (step (asking [{ off := 0x20, size := .four, access := .read }] doneJob))
    (fun t => t.answer == .returned [0, 0, 0, 0] && !t.err) = true := by decide
/-- The result is the refusal of an access outside the window. -/
def refusedOutside (r : Result) : Bool :=
  match r with
  | .next _ => false
  | .fault _ => false
  | .refused why => why == .outsideWindow
/-- 92_eei_decisions.md D40: the access that crosses the window's end is refused, and the last one that does not is served. -/
theorem test_crossingRequest_is_refused :
    refusedOutside (step (asking [{ off := 0x3c, size := .eight, access := .read }] State.reset)) = true ∧
    next (step (asking [{ off := 0x3c, size := .four, access := .read }] State.reset)) (fun t => t.answer == .returned [0, 0, 0, 0]) =
      true := by decide
/-- T-ERR-25 and T-ERR-26. -/
theorem test_badWrites :
    next (step (asking [{ off := 0x00, size := .four, access := .write 7 }] State.reset)) (fun t => statusWord t == 0x058 && t.key0 == 0) =
      true ∧
    next (step (asking [{ off := 0x04, size := .eight, access := .write 7 }] State.reset)) (fun t => statusWord t == 0x058) = true := by
  decide
/-- T-ERR-8, T-ERR-10 and T-ERR-12. -/
theorem test_rejectedWords :
    next (step (flying 0x8000000000000080 0 State.reset)) (fun t => statusWord t == 0x018) = true ∧
    next (step (flying 0x803 0 State.reset)) (fun t => statusWord t == 0x028) = true ∧
    next (step (flying 0x204 0 openJob)) (fun t => statusWord t == 0x32a && t.v == openJob.v) = true := by decide
/-- T-FLT-1, after the completion: the STATUS read is performed in the cycle in which INIT completes. -/
theorem test_statusRead_after_completion :
    next (step (asking [statusRead] (flying 0x1 0 keyed))) (fun t => t.answer == .returned (leBytes 0x302) && t.port == []) = true := by
  decide
/-- T-RST-2. -/
theorem test_reset_abandons : next (step { flying 0x2 1 openJob with len := 8, inputs := [{ rst := true, request := none }] })
    (fun t => { t with rst := false } == State.reset) = true := by decide
/-- The model's `withFetchWord` from reset (log entry 5). -/
theorem test_withFetchWord :
    next (step (State.reset.withFetchWord 8 0x38)) (fun t => t.answer == .returned (leBytes idWord)) = true ∧
    next (step (State.reset.withFetchWord 64 0x1)) (fun t => statusWord t == 0x068) = true := by decide

/-! ## Witnesses of the obligations' hypotheses -/

theorem witness_FetchWordRunsTheTableRow :
    State.reset.port.head? ≠ some (registerRequest .status .read) ∧ decodeTableWord 8 0x78 = some (.wrId 0) ∧
    decodeTableWord 64 0x703 = some (.final 7) := by decide

theorem witness_RotationMovesEveryBit :
    (0 < 1 ∧ 1 < 64 ∧ 63 < 64 ∧ (rotl64 0x8000000000000000 1).getLsbD ((63 + 1) % 64) = true) ∧
    (0 < 63 ∧ 63 < 64 ∧ 0 < 64 ∧ (rotl64 0x1 63).getLsbD ((0 + 63) % 64) = true) := by decide

/-- The clauses of a byte below r, of byte 7 and of the zeros between, for r = 7 and r = 0. -/
theorem witness_PadWordByteByByte :
    byteOf (padWord 0x1716151413121110 7 0x1ff) 6 = 0x16 ∧ byteOf (padWord 0x1716151413121110 7 0x1ff) 7 = 0xff ∧
    byteOf (padWord 0x1716151413121110 0 0x1ff) 0 = 0 ∧ byteOf (padWord 0x1716151413121110 0 0x1ff) 7 = 0xff := by decide

theorem witness_InitOpensAJob : keyed.k0ld = true ∧ keyed.k1ld = true := by decide

theorem witness_InitNeedsBothKeyWords :
    ({ keyed with k0ld := false } : State).k0ld = false ∧ ({ keyed with k1ld := false } : State).k1ld = false := by decide

theorem witness_AbsorbTakesTheDataWord :
    let s : State := { openJob with len := 0xFFFFFFFFFFFFFFF7 }
    s.err = false ∧ s.phase = .absorbing ∧ s.len.toNat ≤ 2 ^ 64 - 9 := by decide

theorem witness_AbsorbFailsItsChecks :
    failedJob.err = true ∧ (doneJob.err = false ∧ doneJob.phase ≠ .absorbing) ∧ (keyed.err = false ∧ keyed.phase ≠ .absorbing) ∧
    (let s : State := { openJob with len := 0xFFFFFFFFFFFFFFF8 }
     s.err = false ∧ s.phase = .absorbing ∧ s.len.toNat > 2 ^ 64 - 9) := by decide

theorem witness_FinalTakesTheTagAndWipes : openJob.err = false ∧ openJob.phase = .absorbing := by decide

theorem witness_FinalFailsItsChecks :
    failedJob.err = true ∧ (doneJob.err = false ∧ doneJob.phase ≠ .absorbing) ∧ (keyed.err = false ∧ keyed.phase ≠ .absorbing) := by
  decide

/-- The hypothesis of KeyAndDataWritesTakeTheWord, WritesToReadOnlyRegistersRecordBadAccess, WriteOnlyRegistersReadZero and
ReadOnlyRegistersReadTheirValue. -/
theorem witness_noCommandInFlight : openJob.inflight = none ∧ failedJob.inflight = none ∧ doneJob.inflight = none := by decide

theorem witness_CommandWriteIssuesTheWord :
    State.reset.inflight = none ∧ (let s : State := { keyed with latencies := [0, 4] }
      s.inflight = none ∧ s.latencies = 0 :: [4]) := by decide

theorem witness_TransactionsStallBehindACommand :
    (flying 0x2 0 openJob).inflight ≠ none ∧
    ((registerRequest .data (.write 1)).inWindow = true ∧ registerRequest .data (.write 1) ≠ registerRequest .status .read) ∧
    (let r : Request := { off := 0x20, size := .four, access := .read }
     r.inWindow = true ∧ r ≠ registerRequest .status .read) := by decide

theorem witness_NarrowAndMisalignedAccessesAreIneffective :
    (let r : Request := { off := 0x3f, size := .one, access := .read }
     r.inWindow = true ∧ ¬(r.size = .eight ∧ r.off.toNat % 8 = 0) ∧ r.access = .read) ∧
    (let r : Request := { off := 0x37, size := .eight, access := .write 9 }
     r.inWindow = true ∧ ¬(r.size = .eight ∧ r.off.toNat % 8 = 0) ∧ r.access = .write 9) ∧ State.reset.inflight = none := by decide

theorem witness_CrossingRequestsAreRefused :
    (let r : Request := { off := 0x39, size := .eight, access := .read }
     r.inWindow = false ∧ nextEvent (asking [r] State.reset) = .request r) ∧
    (let r : Request := { off := 0x3f, size := .two, access := .write 9 }
     r.inWindow = false ∧ nextEvent (asking [r] (flying 0x2 1 openJob)) = .request r) := by decide

theorem witness_ReadsHaveNoEffect :
    (registerRequest .tag .read).inWindow = true ∧ (registerRequest .tag .read).access = .read ∧
    (let r : Request := { off := 0x3c, size := .four, access := .read }
     r.inWindow = true ∧ r.access = .read) := by decide

theorem witness_StepRunsTheRequestedAccess :
    (let s := asking [registerRequest .id .read] State.reset
     (sampleInputs s).rst = false ∧ s.inflight = none ∧ (sampleInputs s).port = registerRequest .id .read :: [] ∧
       decode (.bus (registerRequest .id .read)) = .instr .rdId) ∧
    (let s := asking [registerRequest .data (.write 1)] (flying 0x2 1 openJob)
     (sampleInputs s).rst = false ∧ s.inflight = some { word := 0x2, left := 1 } ∧
       (sampleInputs s).port = registerRequest .data (.write 1) :: []) := by decide

theorem witness_StepRunsTheCommandInFlight :
    (let s := flying 0x2 0 openJob
     (sampleInputs s).rst = false ∧ s.inflight = some { word := 0x2, left := 0 } ∧ decode (.command 0x2) = .instr .absorb ∧
       (sampleInputs s).port.head? ≠ some (registerRequest .status .read)) ∧
    (let s := asking [statusRead] (flying 0x2 0 openJob)
     (sampleInputs s).rst = false ∧ s.inflight = some { word := 0x2, left := 0 } ∧
       (sampleInputs s).port = registerRequest .status .read :: []) := by decide

theorem witness_InputsReachThePort :
    openJob.inputs = [] ∧
    (let c : CycleInput := { rst := true, request := some statusRead }
     let s : State := { asking [statusRead] openJob with inputs := [c] }
     s.inputs = c :: [] ∧ c.rst = true ∧ s.rst = false ∧ (sampleInputs s).port = [statusRead]) ∧
    (let c : CycleInput := { rst := false, request := some statusRead }
     let s : State := { asking [statusRead] openJob with inputs := [c] }
     s.inputs = c :: [] ∧ ¬(c.rst = true ∧ s.rst = false) ∧ (sampleInputs s).port = [statusRead, statusRead]) := by decide

/-- A reset that is just asserted, with a request that arrives with it, and one held past the end of `inputs`. -/
theorem witness_ResetClearsEveryItem :
    (let s : State := { flying 0x2 1 openJob with inputs := [{ rst := true, request := some statusRead }] }
     (sampleInputs s).rst = true ∧ s.rst = false) ∧
    (let s : State := { asking [statusRead] openJob with rst := true }
     (sampleInputs s).rst = true ∧ s.inputs = []) := by decide

/-- With and without the platform's routing: the crossing request waits behind a reset. -/
theorem witness_EveryStepGivesAState :
    RoutedByPlatform (asking [statusRead] openJob) ∧
    nextEvent { asking [{ off := 0x3c, size := .eight, access := .read }] openJob with rst := true } = .reset := by decide

theorem witness_RequestsStayInTheWindow :
    (let s := asking [registerRequest .data (.write 1), statusRead] openJob
     RoutedByPlatform s ∧ next (step s) (fun t => t.port == [statusRead]) = true ∧
     next (hostAccess { base := 0x1000 } 0x103f .one .read s) (fun t => t.port.length == 3) = true) := by decide

theorem witness_NothingMovesWhileACommandIsInFlight :
    (let s := asking [statusRead] (flying 0x2 1 openJob)
     (sampleInputs s).rst = false ∧ s.inflight = some { word := 0x2, left := 0 + 1 } ∧
       (sampleInputs s).port = registerRequest .status .read :: []) ∧
    (let s := asking [registerRequest .cmd (.write 0)] (flying 0x2 1 openJob)
     (sampleInputs s).rst = false ∧ s.inflight = some { word := 0x2, left := 0 + 1 } ∧
       (sampleInputs s).port = [registerRequest .cmd (.write 0)] ∧
       registerRequest .cmd (.write 0) ≠ registerRequest .status .read ∧ (registerRequest .cmd (.write 0)).inWindow = true) := by decide

/-- Also for EveryStepKeepsSecretsWiped and PhaseFollowsItsTransitionTable: an ABSORB due in an open job. -/
theorem witness_EveryStepKeepsTheStateInvariants :
    StateInv (flying 0x2 0 openJob) ∧ SecretsWiped (flying 0x2 0 openJob) ∧
    next (step (flying 0x2 0 openJob)) (fun t => t.len == 8) = true := by decide

/-- Each clause of the table: a reset, INIT, FINAL, ABORT, a request and a quiet cycle. -/
theorem witness_PhaseFollowsItsTransitionTable :
    nextEvent { openJob with rst := true } = .reset ∧
    (nextEvent (flying 0x1 0 keyed) = .complete 0x1 ∧ next (step (flying 0x1 0 keyed)) (fun t => t.phase = .absorbing) = true) ∧
    (nextEvent (flying 0x703 0 openJob) = .complete 0x703 ∧ next (step (flying 0x703 0 openJob)) (fun t => t.phase = .done) = true) ∧
    (nextEvent (flying 0x4 0 doneJob) = .complete 0x4 ∧ next (step (flying 0x4 0 doneJob)) (fun t => t.phase = .idle) = true) ∧
    nextEvent (asking [statusRead] openJob) = .request statusRead ∧ nextEvent openJob = .quiet := by decide

/-- Each clause: LEN kept, cleared, raised by an ABSORB to the limit, and by a FINAL to 2^64 - 1. -/
theorem witness_LenNeverWraps :
    (StateInv (longJob 0x2 0xFFFFFFFFFFFFFFF0) ∧
      next (step (longJob 0x2 0xFFFFFFFFFFFFFFF0)) (fun t => t.len == 0xFFFFFFFFFFFFFFF8) = true) ∧
    (StateInv (longJob 0x703 0xFFFFFFFFFFFFFFF8) ∧
      next (step (longJob 0x703 0xFFFFFFFFFFFFFFF8)) (fun t => t.len == 0xFFFFFFFFFFFFFFFF) = true) ∧
    (StateInv (longJob 0x2 0xFFFFFFFFFFFFFFF8) ∧
      next (step (longJob 0x2 0xFFFFFFFFFFFFFFF8)) (fun t => t.len == 0xFFFFFFFFFFFFFFF8) = true) ∧
    (StateInv (longJob 0x4 0xFFFFFFFFFFFFFFF8) ∧
      next (step (longJob 0x4 0xFFFFFFFFFFFFFFF8)) (fun t => t.len == 0) = true) := by
  refine ⟨?_, ?_, ?_, ?_⟩ <;> decide

theorem witness_OnlyTheseEventsWriteV :
    next (step (flying 0x2 0 openJob)) (fun t => t.v != openJob.v) = true ∧
    next (step { openJob with rst := true }) (fun t => t.v != openJob.v) = true := by decide

theorem witness_OnlyFinalWritesATag :
    next (step (flying 0x3 0 openJob)) (fun t => t.tag != openJob.tag) = true ∧
    next (step (flying 0x4 0 doneJob)) (fun t => t.tag != doneJob.tag) = true := by decide

theorem witness_OnlyTheseEventsChangeTheKey :
    next (step (asking [registerRequest .key0 (.write 0)] State.reset)) (fun t => t.k0ld != State.reset.k0ld) = true ∧
    next (step (flying 0x703 0 openJob)) (fun t => t.key1 != openJob.key1) = true := by decide

theorem witness_ARecordedErrorStays :
    failedJob.err = true ∧ next (step (flying 0x1 0 failedJob)) (fun t => t.err != failedJob.err) = true := by decide

/-- A FINAL completes under ERR, and a read is served after it. -/
theorem witness_AJobWithAnErrorYieldsNoTag :
    let s := asking [registerRequest .tag .read] (flying 0x3 0 failedJob)
    s.err = true ∧ clearsError (nextEvent s) = false ∧
    next (run 1 s) (fun u => clearsError (nextEvent u) == false) = true ∧
    next (run 2 s) (fun t => t.answer == .returned (leBytes 0)) = true := by decide

theorem witness_TagReadsZeroOutsideDone :
    StateInv openJob ∧ openJob.inflight = none ∧ openJob.phase ≠ .done ∧ next (exec .rdTag openJob) (fun _ => true) = true := by decide

/-- ABSORB completes, so the word 0x2 is the only one, and the states differ in every secret. -/
theorem witness_SecretsReachTheHostOnlyAsATag :
    nextEvent (flying 0x2 0 openJob) = .complete 0x2 ∧ (0x2 : Word).toNat % 256 ≠ 3 ∧
    next (step (flying 0x2 0 openJob)) (fun _ => true) = true ∧
    next (step (withSecrets SipState.zero 1 2 3 (flying 0x2 0 openJob))) (fun t => t.len == 8) = true := by decide

theorem witness_ACommandCompletesAfterItsLatency :
    NoReset (flying 0x2 2 openJob) ∧ RoutedByPlatform (flying 0x2 2 openJob) ∧ (flying 0x2 2 openJob).inflight = some { word := 0x2, left := 2 } ∧
    next (run 3 (flying 0x2 2 openJob)) (fun t => t.inflight == none && t.len == 8) = true := by decide

theorem witness_AStalledTransactionIsPerformed :
    let s := asking [registerRequest .data (.write 5)] (flying 0x2 1 openJob)
    NoReset s ∧ RoutedByPlatform s ∧ s.inflight = some { word := 0x2, left := 1 } ∧ s.port = registerRequest .data (.write 5) :: [] ∧
    registerRequest .data (.write 5) ≠ registerRequest .status .read ∧
    next (run 3 s) (fun t => t.answer == .written && t.data == 5) = true := by decide

/-- T-FLT-1: 0x301 or 0x302, by LAT. -/
theorem witness_BusyAsReadDependsOnTheLatency :
    (let s : State := { asking [registerRequest .cmd (.write 0x1), statusRead] keyed with latencies := [5] }
     QuietInputs s ∧ s.inflight = none ∧ s.latencies = (4 + 1) :: [] ∧ next (run 2 s) (fun t => t.answer == .returned (leBytes 0x301)) = true) ∧
    (let s : State := { asking [registerRequest .cmd (.write 0x1), statusRead] keyed with latencies := [0] }
     QuietInputs s ∧ s.inflight = none ∧ s.latencies = 0 :: [] ∧ next (run 2 s) (fun t => t.answer == .returned (leBytes 0x302)) = true) := by
  decide

/-- The three bytes 0, 1, 2 under key K, DATA's upper bytes arbitrary (T-PAD-3's word). -/
theorem witness_AJobComputesSipHash24 :
    let key : List Byte := [0, 1, 2, 3, 4, 5, 6, 7, 8, 9, 10, 11, 12, 13, 14, 15]
    let msg : List Byte := [0, 1, 2]
    let s := asking (jobRequests key msg 0xFFFFFFFFFF020100) { State.reset with latencies := [0, 0] }
    key.length = 16 ∧ msg.length ≤ 2 ^ 64 - 1 ∧
    (∀ j < msg.length % 8, some (byteOf 0xFFFFFFFFFF020100 j) = msg[8 * (msg.length / 8) + j]?) ∧
    QuietInputs s ∧ s.inflight = none ∧ s.port = jobRequests key msg 0xFFFFFFFFFF020100 := by decide

/-- The first and the last access of the window, and one on either side of it. -/
theorem witness_ThePlatformRoutesOnlyTheWindow :
    let p : Config.Platform := { base := 0x1000 }
    p.wf = true ∧ 0x1000 = p.base + 0 ∧ 0 + AccessSize.bytes .eight ≤ 64 ∧ 0x103f = p.base + 63 ∧
    63 + AccessSize.bytes .one ≤ 64 ∧ 0xfff < p.base ∧ p.base + 64 < 0x1039 + AccessSize.bytes .eight := by decide

theorem witness_WaitIdleEndsWithNoCommandInFlight :
    let sys : System := { engine := flying 0x2 2 openJob, program := waitIdle 1 0, index := 0, vars := [] }
    sys.program[0]? = some (.rd .status 1) ∧ sys.program[0 + 1]? = some (.bnz 1 0x1 0) ∧ sys.index = 0 ∧ QuietInputs sys.engine := by
  decide

end Sys2Proof.Tests
end

section
/-! PROOFS of 00_scope.md R14: a word and its eight bytes determine each other. -/

namespace Sys2Proof.Machine

/-- `LE64` of at most eight bytes reads them as base-256 digits, the least first. -/
theorem toNat_le64 {bs : List Byte} (h : bs.length ≤ 8) : (le64 bs).toNat = Nat.ofDigits 256 (bs.map BitVec.toNat) := by
  induction bs with
  | nil => rfl
  | cons b bs ih =>
    have hlen : bs.length ≤ 7 := by rw [List.length_cons] at h; omega
    have hdigits : ∀ d ∈ bs.map BitVec.toNat, d < 256 := by
      intro d hd
      obtain ⟨c, -, rfl⟩ := List.mem_map.mp hd
      exact c.isLt
    have hlt : Nat.ofDigits 256 (bs.map BitVec.toNat) < 2 ^ 56 :=
      calc Nat.ofDigits 256 (bs.map BitVec.toNat)
        _ < 256 ^ (bs.map BitVec.toNat).length := Nat.ofDigits_lt_base_pow_length (by decide) hdigits
        _ ≤ 256 ^ 7 := Nat.pow_le_pow_right (by decide) (by simpa using hlen)
        _ = 2 ^ 56 := by norm_num
    rw [toNat_le64_cons b hlt (ih (by omega)), List.map_cons, Nat.ofDigits_cons]
    ring

/-- Element j of `LEBYTES(w)` is byte j of the word. -/
theorem getElem?_leBytes (w : Word) {j : Nat} (hj : j < 8) : (leBytes w)[j]? = some (byteOf w j) := by
  have h : leBytes w = (List.range 8).map (byteOf w) := rfl
  simp [h, hj]

/-- Two words that agree in all eight bytes are equal: bit i stands in byte i / 8. -/
theorem eq_of_byteOf_eq {x y : Word} (h : ∀ j < 8, byteOf x j = byteOf y j) : x = y := by
  apply BitVec.eq_of_getLsbD_eq
  intro i hi
  have hbit := congrArg (fun b => b.getLsbD (i % 8)) (h (i / 8) (by omega))
  simpa [byteOf, BitVec.getLsbD_extractLsb', Nat.mod_lt, Nat.div_add_mod] using hbit

/-- `LEBYTES` inverts `LE64` on eight bytes. -/
theorem leBytes_le64 {bs : List Byte} (h : bs.length = 8) : leBytes (le64 bs) = bs := by
  apply List.ext_getElem (by rw [h]; rfl)
  intro j _ hj
  have hj8 : j < 8 := h ▸ hj
  apply Option.some_inj.mp
  rw [← List.getElem?_eq_getElem, getElem?_leBytes _ hj8, byteOf_le64 bs j hj8, List.getElem?_eq_getElem hj,
    Option.getD_some]

/-- `LE64` inverts `LEBYTES`. -/
theorem le64_leBytes (w : Word) : le64 (leBytes w) = w := by
  apply eq_of_byteOf_eq
  intro j hj
  rw [byteOf_le64 _ j hj, getElem?_leBytes w hj, Option.getD_some]

/-- Settles O7: both inverses go byte by byte, and the sum is the base-256 value of the bytes. -/
theorem littleEndianBytesInvert : Obligations.LittleEndianBytesInvert := by
  refine ⟨fun b0 b1 b2 b3 b4 b5 b6 b7 => ⟨?_, leBytes_le64 rfl⟩, fun w => ⟨rfl, fun j hj => ?_, le64_leBytes w⟩, ?_⟩
  · rw [toNat_le64 (by simp)]
    simp only [List.map_cons, List.map_nil, Nat.ofDigits_cons, Nat.ofDigits_nil]
    ring
  · rw [getElem?_leBytes w hj, byteOf_eq_ofNat]
  · decide

end Sys2Proof.Machine
end

section
/-! PROOFS of 10_state.md: what the event of a step does to the items of R30, said once, and the invariants and frames that follow
from it. -/

namespace Sys2Proof.Machine

/-- The request an access decodes from is the aligned 8-byte access to its register (10_state.md R48). -/
theorem registerRequest_of_decodeRequest {r : Request} {i : Instr} (h : decodeRequest r = .instr i) :
    ∃ reg, (r = registerRequest reg .read ∧ i = readInstr reg) ∨
      ∃ v, r = registerRequest reg (.write v) ∧ i = writeInstr v reg := by
  obtain ⟨off, size, access⟩ := r
  obtain ⟨reg, rfl, hreg, ⟨rfl, hi⟩ | ⟨v, rfl, hi⟩⟩ := decodeRequest_cases h <;> cases Reg.ofOffset_eq_some hreg
  · exact ⟨reg, .inl ⟨rfl, hi⟩⟩
  · exact ⟨reg, .inr ⟨v, rfl, hi⟩⟩

/-- Only the aligned 8-byte write of KEY0 decodes to it (42_register_access.md R200). -/
theorem eq_of_decodeRequest_wrKey0 {r : Request} {v : Word} (h : decodeRequest r = .instr (.wrKey0 v)) :
    r = registerRequest .key0 (.write v) := by
  obtain ⟨reg, ⟨-, hi⟩ | ⟨v', rfl, hi⟩⟩ := registerRequest_of_decodeRequest h <;> cases reg <;> cases hi
  rfl

/-- Only the aligned 8-byte write of KEY1 decodes to it (42_register_access.md R202). -/
theorem eq_of_decodeRequest_wrKey1 {r : Request} {v : Word} (h : decodeRequest r = .instr (.wrKey1 v)) :
    r = registerRequest .key1 (.write v) := by
  obtain ⟨reg, ⟨-, hi⟩ | ⟨v', rfl, hi⟩⟩ := registerRequest_of_decodeRequest h <;> cases reg <;> cases hi
  rfl

/-- Two states agree in every item of 10_state.md R30 but INFLIGHT; their interface and environment may differ. -/
structure SameItems (s t : State) : Prop where
  v : t.v = s.v
  key0 : t.key0 = s.key0
  key1 : t.key1 = s.key1
  k0ld : t.k0ld = s.k0ld
  k1ld : t.k1ld = s.k1ld
  data : t.data = s.data
  len : t.len = s.len
  tag : t.tag = s.tag
  phase : t.phase = s.phase
  err : t.err = s.err
  errcode : t.errcode = s.errcode

theorem SameItems.trans {s t u : State} (h : SameItems s t) (h' : SameItems t u) : SameItems s u where
  v := h'.v.trans h.v
  key0 := h'.key0.trans h.key0
  key1 := h'.key1.trans h.key1
  k0ld := h'.k0ld.trans h.k0ld
  k1ld := h'.k1ld.trans h.k1ld
  data := h'.data.trans h.data
  len := h'.len.trans h.len
  tag := h'.tag.trans h.tag
  phase := h'.phase.trans h.phase
  err := h'.err.trans h.err
  errcode := h'.errcode.trans h.errcode

/-- The answer of a request changes no item (70_reset_and_hazards.md R281). -/
theorem sameItems_finishRequest (a : Answer) (s : State) : SameItems s (finishRequest a s) := by
  constructor <;> rfl

/-- What the event e of a step makes of the state s, the interface and the model's own fields left aside (10_state.md R33 to R46). -/
inductive ItemsAfter (s : State) : Event → State → Prop where
  /-- Every item to its reset value (R55). -/
  | resets : ItemsAfter s .reset (resetItems s)
  /-- No item changes: a read, a stall, a CMD write, a quiet cycle, NOP, or a discarded command. -/
  | keeps {e : Event} : ItemsAfter s e s
  /-- An error is recorded (60_exceptions.md R243). -/
  | records {e : Event} (code : ErrorCode) : ItemsAfter s e (recordError code s)
  /-- The write of KEY0. -/
  | setsKey0 (v : Word) : ItemsAfter s (.request (registerRequest .key0 (.write v))) { s with key0 := v, k0ld := true }
  /-- The write of KEY1. -/
  | setsKey1 (v : Word) : ItemsAfter s (.request (registerRequest .key1 (.write v))) { s with key1 := v, k1ld := true }
  /-- The write of DATA. -/
  | setsData (r : Request) (v : Word) : ItemsAfter s (.request r) { s with data := v }
  /-- INIT, both key words loaded. -/
  | inits (w : Word) (hw : decodeCommand w = .instr .init) : ItemsAfter s (.complete w) (performInit s)
  /-- ABSORB in an open job, with room in LEN. -/
  | absorbs (w : Word) (hw : decodeCommand w = .instr .absorb) (hp : s.phase = .absorbing) (hl : s.len.toNat ≤ 2 ^ 64 - 9) :
      ItemsAfter s (.complete w) (performAbsorb s)
  /-- FINAL in an open job. -/
  | finals (w : Word) (r : BitVec 3) (hw : decodeCommand w = .instr (.final r)) (hp : s.phase = .absorbing) :
      ItemsAfter s (.complete w) (performFinal r s)
  /-- ABORT. -/
  | aborts (w : Word) (hw : decodeCommand w = .instr .abort) : ItemsAfter s (.complete w) (performAbort s)

/-- The items after a completion. -/
theorem Completed.itemsAfter {w : Word} {s t : State} (h : Completed w (sampleInputs s) t) :
    ∃ u, ItemsAfter s (.complete w) u ∧ SameItems u t := by
  cases h with
  | fails code => exact ⟨_, .records code, by constructor <;> simp⟩
  | nothing => exact ⟨_, .keeps, by constructor <;> simp⟩
  | inits hw => exact ⟨_, .inits w hw, by constructor <;> simp⟩
  | absorbs hw _ hp hl => exact ⟨_, .absorbs w hw (by simpa using hp) (by simpa using hl), by constructor <;> simp⟩
  | finals r hw _ hp => exact ⟨_, .finals w r hw (by simpa using hp), by constructor <;> simp⟩
  | aborts hw => exact ⟨_, .aborts w hw, by constructor <;> simp⟩

/-- The items after a request is served or stalls. -/
theorem Served.itemsAfter {r : Request} {s t : State} (h : Served r (tick (sampleInputs s)) t) :
    ∃ u, ItemsAfter s (.request r) u ∧ SameItems u t := by
  cases h with
  | stalls => exact ⟨_, .keeps, by constructor <;> simp⟩
  | reads => exact ⟨_, .keeps, by constructor <;> simp⟩
  | setsKey0 v hd =>
    cases eq_of_decodeRequest_wrKey0 hd
    exact ⟨_, .setsKey0 v, by constructor <;> simp⟩
  | setsKey1 v hd =>
    cases eq_of_decodeRequest_wrKey1 hd
    exact ⟨_, .setsKey1 v, by constructor <;> simp⟩
  | setsData v => exact ⟨_, .setsData r v, by constructor <;> simp⟩
  | issues => exact ⟨_, .keeps, by constructor <;> simp⟩
  | badAccess => exact ⟨_, .records .badAccess, by constructor <;> simp⟩

/-- A step serves its event after its inputs. -/
theorem step_eq_serveEvent (s : State) : step s = serveEvent (nextEvent s) (sampleInputs s) := rfl

/-- The completion that a step serves, and the STATUS read that may follow it in the same cycle (42_register_access.md R212). -/
theorem serveEvent_complete_cases {w : Word} {s t : State} (h : serveEvent (.complete w) s = .next t) :
    ∃ u, completeWord w s = .next u ∧ (t = u ∨ ∃ a, t = finishRequest a u) := by
  unfold serveEvent at h
  cases hc : completeWord w s with
  | fault f => cases f
  | refused r => simp [hc] at h
  | next u =>
    simp only [hc, readStatusAfter, performStatusRead] at h
    split at h <;> cases h
    · exact ⟨_, rfl, .inr ⟨_, rfl⟩⟩
    · exact ⟨_, rfl, .inl rfl⟩

/-- The items after any step, by its event: every claim on the items is a case analysis of this. -/
theorem itemsAfter_of_step {s t : State} (h : step s = .next t) : ∃ u, ItemsAfter s (nextEvent s) u ∧ SameItems u t := by
  rw [step_eq_serveEvent] at h
  cases he : nextEvent s with
  | reset =>
    rw [he] at h
    cases h
    exact ⟨_, .resets, by constructor <;> simp⟩
  | complete w =>
    rw [he] at h
    obtain ⟨c, hc, ht⟩ := serveEvent_complete_cases h
    obtain ⟨u, hu, hs⟩ := (completed_of_completeWord hc).itemsAfter
    obtain rfl | ⟨a, rfl⟩ := ht
    · exact ⟨u, hu, hs⟩
    · exact ⟨u, hu, hs.trans (sameItems_finishRequest a c)⟩
  | request r =>
    rw [he] at h
    exact (served_of_serveRequest h).itemsAfter
  | quiet =>
    rw [he] at h
    cases h
    exact ⟨_, .keeps, by constructor <;> simp⟩

/-! ### Invariants -/

theorem SameItems.stateInv {s t : State} (h : SameItems s t) (hs : StateInv s) : StateInv t := by
  simpa only [StateInv, h.v, h.len, h.tag, h.phase, h.err, h.errcode] using hs

theorem SameItems.secretsWiped {s t : State} (h : SameItems s t) (hs : SecretsWiped s) : SecretsWiped t := by
  simpa only [SecretsWiped, h.v, h.phase, h.k0ld, h.k1ld, h.key0, h.key1] using hs

/-- The codes that can be recorded are 1 to 6 (60_exceptions.md R240). -/
theorem ErrorCode.code_range (code : ErrorCode) : 1 ≤ code.code.toNat ∧ code.code.toNat ≤ 6 := by
  cases code <;> decide

/-- LEN grows by 8 as a number where there is room for it (10_state.md R39). -/
theorem toNat_len_add_eight {len : Word} (h : len.toNat ≤ 2 ^ 64 - 9) : (len + 8).toNat = len.toNat + 8 := by
  have h8 : (8 : Word).toNat = 8 := rfl
  rw [BitVec.toNat_add_of_lt, h8]
  omega

/-- LEN grows by r as a number at a FINAL r in an open job (10_state.md R39). -/
theorem toNat_len_add_remOperand {len : Word} (r : BitVec 3) (h : len.toNat ≤ 2 ^ 64 - 8) :
    (len + remOperand r).toNat = len.toNat + r.toNat := by
  have hr := r.isLt
  have hrem : (remOperand r).toNat = r.toNat := by simp [remOperand]; omega
  rw [BitVec.toNat_add_of_lt, hrem]
  omega

/-- What an event makes of a state that meets the invariants meets them. -/
theorem ItemsAfter.stateInv {s u : State} {e : Event} (h : ItemsAfter s e u) (hs : StateInv s) : StateInv u := by
  obtain ⟨hclean, hcode, hidle, hopen⟩ := hs
  cases h with
  | resets => simp [StateInv]
  | keeps => exact ⟨hclean, hcode, hidle, hopen⟩
  | records code =>
    refine ⟨by simp, fun _ => ?_, by simpa using hidle, by simpa using hopen⟩
    rw [recordError_errcode]
    split
    · exact hcode ‹_›
    · exact code.code_range
  | setsKey0 => exact ⟨hclean, hcode, hidle, hopen⟩
  | setsKey1 => exact ⟨hclean, hcode, hidle, hopen⟩
  | setsData => exact ⟨hclean, hcode, hidle, hopen⟩
  | inits => simp [StateInv]
  | absorbs w hw hp hl =>
    obtain ⟨htag, hmod, -⟩ := hopen hp
    have hlen := toNat_len_add_eight hl
    refine ⟨hclean, hcode, by simp [hp], fun _ => ⟨htag, ?_, ?_⟩⟩ <;> rw [performAbsorb_len, hlen] <;> omega
  | finals => exact ⟨hclean, hcode, by simp, by simp⟩
  | aborts => simp [StateInv]

/-- Settles O44: the invariants speak of the items only, and each event's effect on the items keeps them. -/
theorem everyStepKeepsTheStateInvariants : Obligations.EveryStepKeepsTheStateInvariants := by
  intro s t hs h
  obtain ⟨u, hu, hsame⟩ := itemsAfter_of_step h
  exact hsame.stateInv (hu.stateInv hs)

/-- What an event makes of a state that holds no finished job's secret holds none. -/
theorem ItemsAfter.secretsWiped {s u : State} {e : Event} (h : ItemsAfter s e u) (hs : SecretsWiped s) : SecretsWiped u := by
  obtain ⟨hv, hk0, hk1⟩ := hs
  cases h with
  | resets => simp [SecretsWiped]
  | keeps => exact ⟨hv, hk0, hk1⟩
  | records => simpa [SecretsWiped] using ⟨hv, hk0, hk1⟩
  | setsKey0 => exact ⟨hv, by simp, hk1⟩
  | setsKey1 => exact ⟨hv, hk0, by simp⟩
  | setsData => exact ⟨hv, hk0, hk1⟩
  | inits => exact ⟨by simp, hk0, hk1⟩
  | absorbs w hw hp => exact ⟨by simp [hp], hk0, hk1⟩
  | finals => simp [SecretsWiped]
  | aborts => simp [SecretsWiped]

/-- Settles O45: V is written into an open job or zeroized, and a key word is written together with its flag. -/
theorem everyStepKeepsSecretsWiped : Obligations.EveryStepKeepsSecretsWiped := by
  intro s t hs h
  obtain ⟨u, hu, hsame⟩ := itemsAfter_of_step h
  exact hsame.secretsWiped (hu.secretsWiped hs)

/-! ### Which events change an item -/

/-- Settles O47: of the effects on the items, only those of the five events touch V. -/
theorem onlyTheseEventsWriteV : Obligations.OnlyTheseEventsWriteV := by
  intro s t h hne
  obtain ⟨u, hu, hsame⟩ := itemsAfter_of_step h
  rw [hsame.v] at hne ⊢
  generalize nextEvent s = e at hu ⊢
  cases hu with
  | resets => exact .inl ⟨rfl, rfl⟩
  | inits w hw => exact .inr ⟨w, rfl, .inl ⟨hw, rfl⟩⟩
  | absorbs w hw hp => exact .inr ⟨w, rfl, .inr (.inl ⟨hw, hp, rfl⟩)⟩
  | finals w r hw => exact .inr ⟨w, rfl, .inr (.inr (.inl ⟨r, hw, rfl⟩))⟩
  | aborts w hw => exact .inr ⟨w, rfl, .inr (.inr (.inr ⟨hw, rfl⟩))⟩
  | _ => simp at hne

/-- Settles O48: of the effects on the items, those of reset, INIT and ABORT clear TAG, and only FINAL's, into DONE, writes it. -/
theorem onlyFinalWritesATag : Obligations.OnlyFinalWritesATag := by
  intro s t h hne
  obtain ⟨u, hu, hsame⟩ := itemsAfter_of_step h
  rw [hsame.tag] at hne ⊢
  rw [hsame.phase]
  generalize nextEvent s = e at hu ⊢
  cases hu with
  | resets => exact .inl ⟨rfl, .inl rfl⟩
  | inits w hw => exact .inl ⟨rfl, .inr ⟨w, rfl, .inl hw⟩⟩
  | finals w r hw => exact .inr ⟨w, r, rfl, hw, rfl⟩
  | aborts w hw => exact .inl ⟨rfl, .inr ⟨w, rfl, .inr hw⟩⟩
  | _ => simp at hne

/-- Settles O49: of the effects on the items, those of reset, FINAL and ABORT clear the key, and only the key writes set it. -/
theorem onlyTheseEventsChangeTheKey : Obligations.OnlyTheseEventsChangeTheKey := by
  intro s t h hne
  obtain ⟨u, hu, hsame⟩ := itemsAfter_of_step h
  rw [hsame.key0, hsame.k0ld, hsame.key1, hsame.k1ld] at hne ⊢
  generalize nextEvent s = e at hu ⊢
  cases hu with
  | resets => exact .inl ⟨rfl, .inl rfl⟩
  | setsKey0 v => exact .inr (.inl ⟨v, rfl, rfl⟩)
  | setsKey1 v => exact .inr (.inr ⟨v, rfl, rfl⟩)
  | finals w r hw => exact .inl ⟨rfl, .inr ⟨w, rfl, .inl ⟨r, hw⟩⟩⟩
  | aborts w hw => exact .inl ⟨rfl, .inr ⟨w, rfl, .inr hw⟩⟩
  | _ => simp at hne

/-- Settles O52: ABSORB's check and, in an open job, the invariant leave room for the sums. -/
theorem lenNeverWraps : Obligations.LenNeverWraps := by
  intro s t hs h
  obtain ⟨-, -, -, hopen⟩ := hs
  obtain ⟨u, hu, hsame⟩ := itemsAfter_of_step h
  rw [hsame.len]
  generalize nextEvent s = e at hu ⊢
  cases hu with
  | resets => exact .inr (.inl ⟨rfl, .inl rfl⟩)
  | inits w hw => exact .inr (.inl ⟨rfl, .inr ⟨w, rfl, .inl hw⟩⟩)
  | absorbs w hw _ hl => exact .inr (.inr (.inl ⟨w, rfl, hw, toNat_len_add_eight hl⟩))
  | finals w r hw hp =>
    obtain ⟨-, -, hle⟩ := hopen hp
    exact .inr (.inr (.inr ⟨w, r, rfl, hw, toNat_len_add_remOperand r hle⟩))
  | aborts w hw => exact .inr (.inl ⟨rfl, .inr ⟨w, rfl, .inr hw⟩⟩)
  | _ => exact .inl (by simp)

end Sys2Proof.Machine
end

section
/-! PROOFS of 10_state.md R42, R52 and R55, and of the reset clauses of R39 and R56. -/

namespace Sys2Proof.Machine

/-! ### PHASE -/

/-- PHASE after a completion: the command's where its checks pass, else unchanged (41_commands.md R161). -/
theorem completeWith_phase {verdict : Verdict} {perform : State → State} {s t : State}
    (h : completeWith verdict perform s = .next t) :
    t.phase = if verdict = .execute then (perform s).phase else s.phase := by
  obtain ⟨code, rfl, rfl⟩ | ⟨rfl, rfl⟩ | ⟨rfl, rfl⟩ := completeWith_cases h <;> simp

/-- PHASE after the completion of a word that is no command. -/
theorem completeRejected_phase {why : Reject} {s t : State} (h : completeRejected why s = .next t) : t.phase = s.phase := by
  unfold completeRejected at h
  split at h <;> simpa using completeWith_phase h

/-- PHASE after the completion of the word w, as the transition table says (10_state.md R42). -/
theorem completeWord_phase {w : Word} {s t : State} (h : completeWord w s = .next t) :
    t.phase =
      if decode (.command w) = .instr .init ∧ s.k0ld = true ∧ s.k1ld = true then .absorbing
      else if (∃ r, decode (.command w) = .instr (.final r)) ∧ s.phase = .absorbing ∧ s.err = false then .done
      else if decode (.command w) = .instr .abort then .idle
      else s.phase := by
  unfold completeWord at h
  cases hd : decode (.command w) with
  | rejected why =>
    rw [hd] at h
    simpa using completeRejected_phase h
  | instr i =>
    rw [hd] at h
    obtain ⟨-, c⟩ := decodeCommand_cases hd
    rcases c with ⟨-, -, rfl⟩ | ⟨-, -, rfl⟩ | ⟨-, -, rfl⟩ | ⟨-, rfl⟩ | ⟨-, -, rfl⟩
    · rw [completeWith_phase (verdict := .execute) (perform := id) h]
      simp
    · rw [completeWith_phase (verdict := initCheck s) (perform := performInit) h]
      simp [initCheck_execute]
    · rw [completeWith_phase (verdict := absorbCheck s) (perform := performAbsorb) h]
      simp
    · rw [completeWith_phase (verdict := jobCheck s) (perform := performFinal (remField w)) h]
      simp [jobCheck_execute, and_comm]
    · rw [completeWith_phase (verdict := .execute) (perform := performAbort) h]
      simp

/-- Settles O46: each event's effect on PHASE, the completions' by `completeWord_phase`. -/
theorem phaseFollowsItsTransitionTable : Obligations.PhaseFollowsItsTransitionTable := by
  intro s t h
  rw [step_eq_serveEvent] at h
  cases he : nextEvent s with
  | reset =>
    rw [he] at h
    cases h
    rfl
  | complete w =>
    rw [he] at h
    obtain ⟨u, hu, ht⟩ := serveEvent_complete_cases h
    have hphase : t.phase = u.phase := by obtain rfl | ⟨a, rfl⟩ := ht <;> rfl
    simpa [hphase] using completeWord_phase hu
  | request r =>
    rw [he] at h
    obtain ⟨u, hu, hsame⟩ := (served_of_serveRequest h).itemsAfter
    rw [hsame.phase]
    cases hu <;> simp
  | quiet =>
    rw [he] at h
    cases h
    simp

/-! ### The placed table row -/

/-- A word's completion leaves the port as it is. -/
theorem Completed.port_eq {w : Word} {s t : State} (h : Completed w s t) : t.port = s.port := by
  cases h <;> simp

/-- A cycle that brings no reset and no arrival leaves the reset input released and the port as it is. -/
theorem sampleInputs_quietFirst {s : State} {l : List CycleInput} (hr : s.rst = false) (hi : s.inputs = quietFirst l) :
    (sampleInputs s).rst = false ∧ (sampleInputs s).port = s.port := by
  cases l <;> simp [sampleInputs, hi, quietFirst, portAfter, hr]

/-- With no command in flight no cycle of LAT passes. -/
theorem tick_of_no_flight {s : State} (h : s.inflight = none) : tick s = s := by
  obtain ⟨_, _, _, _, _, _, _, _, _, inflight, _, _, _, _, _, _, _, _⟩ := s
  cases h
  rfl

/-- A request at the head of the port, with no command in flight and a quiet cycle before it, is performed. -/
theorem step_of_placed_request {s : State} {r : Request} {rest : List Request} {l : List CycleInput} {i : Instr}
    (hr : s.rst = false) (hf : s.inflight = none) (hp : s.port = r :: rest) (hi : s.inputs = quietFirst l)
    (hd : decode (.bus r) = .instr i) : step s = exec i (sampleInputs s) := by
  obtain ⟨hrst, hport⟩ := sampleInputs_quietFirst hr hi
  have he : nextEvent s = .request r := by simp [nextEvent, selectEvent, hrst, hport, hp, hf]
  rw [step_eq_serveEvent, he]
  simp only [serveEvent, serveRequest, hd]
  rw [tick_of_no_flight (by simpa using hf)]

/-- A command that is due, in a quiet cycle with no STATUS read at the port, completes and nothing else happens. -/
theorem step_of_placed_command {s : State} {w : Word} {l : List CycleInput} {i : Instr}
    (hr : s.rst = false) (hf : s.inflight = some { word := w, left := 0 }) (hi : s.inputs = quietFirst l)
    (hs : s.port.head? ≠ some statusRead) (hd : decode (.command w) = .instr i) : step s = exec i (sampleInputs s) := by
  obtain ⟨hrst, hport⟩ := sampleInputs_quietFirst hr hi
  have he : nextEvent s = .complete w := by simp [nextEvent, selectEvent, hrst, hf]
  have hc : completeWord w (sampleInputs s) = exec i (sampleInputs s) := by simp only [completeWord, hd]
  rw [step_eq_serveEvent, he]
  simp only [serveEvent, hc]
  cases hx : exec i (sampleInputs s) with
  | next t =>
    have hpt : t.port = s.port := (completed_of_completeWord (hc.trans hx)).port_eq.trans hport
    simp [readStatusAfter, hpt, hs]
  | fault f => rfl
  | refused why => rfl

/-- The row's instruction is the one its placed encoding decodes to. -/
theorem decode_of_decodeTableWord {nbits w : Nat} {i : Instr} (h : decodeTableWord nbits w = some i) :
    decode (tableEncoding nbits w) = .instr i := by
  cases hd : decode (tableEncoding nbits w) with
  | instr j =>
    rw [decodeTableWord, hd, Option.ite_none_right_eq_some] at h
    obtain ⟨-, ⟨⟩⟩ := h
    rfl
  | rejected why => simp [decodeTableWord, hd] at h

/-- Settles O6: a BUS row is the request served, a CMD row the command that completes. -/
theorem fetchWordRunsTheTableRow : Obligations.FetchWordRunsTheTableRow := by
  intro s nbits w i hport htab
  have hd := decode_of_decodeTableWord htab
  unfold State.withFetchWord
  cases he : tableEncoding nbits w with
  | command word =>
    rw [he] at hd
    exact step_of_placed_command rfl rfl rfl hport hd
  | bus r =>
    rw [he] at hd
    exact step_of_placed_request rfl rfl rfl rfl hd

/-! ### Reset -/

/-- Settles O39: each item as listed, and STATUS from its fields. -/
theorem resetStateIsAsListed : Obligations.ResetStateIsAsListed := by
  have hstatus : statusWord State.reset = 0 := by decide
  exact ⟨rfl, rfl, rfl, rfl, rfl, rfl, rfl, rfl, rfl, rfl, rfl, rfl, rfl, hstatus⟩

/-- Settles O43: in IDLE with nothing recorded, everything zero, and nothing at the port or to come. -/
theorem resetMeetsTheInvariants : Obligations.ResetMeetsTheInvariants := by
  have hinv : StateInv State.reset := by simp [StateInv, State.reset]
  have hwiped : SecretsWiped State.reset := by simp [SecretsWiped, State.reset]
  have hrouted : RoutedByPlatform State.reset := by simp [RoutedByPlatform, State.reset]
  exact ⟨hinv, hwiped, hrouted⟩

end Sys2Proof.Machine
end

section
/-! PROOFS of 10_state.md R54: every operation but FINAL's completion takes states that agree but for their secrets to such states. -/

namespace Sys2Proof.Machine

/-- The two states agree in everything but V, KEY0, KEY1 and DATA (10_state.md R54). -/
def EqButSecrets (s s' : State) : Prop :=
  ∃ (v : SipState) (key0 key1 data : Word), s' = withSecrets v key0 key1 data s

/-- The first result, where it is a next state, is the second's but for the secrets. -/
def NextEqButSecrets (a b : Result) : Prop :=
  ∀ t, a = .next t → ∃ t', b = .next t' ∧ EqButSecrets t t'

theorem nextEqButSecrets_next {t t' : State} (h : EqButSecrets t t') : NextEqButSecrets (.next t) (.next t') := by
  rintro _ ⟨⟩
  exact ⟨t', rfl, h⟩

/-- The effect f lets no secret into another item. -/
def KeepsSecrets (f : State → State) : Prop :=
  ∀ s s', EqButSecrets s s' → EqButSecrets (f s) (f s')

/-! ### The shared operations -/

theorem keepsSecrets_id : KeepsSecrets id := fun _ _ h => h

theorem keepsSecrets_recordError (code : ErrorCode) : KeepsSecrets (recordError code) := by
  rintro s _ ⟨v, key0, key1, data, rfl⟩
  refine ⟨v, key0, key1, data, ?_⟩
  rw [recordError_eq, recordError_eq]
  rfl

theorem keepsSecrets_closeCommand : KeepsSecrets closeCommand := by
  rintro s _ ⟨v, key0, key1, data, rfl⟩
  exact ⟨v, key0, key1, data, rfl⟩

theorem keepsSecrets_issueCommand (w : Word) : KeepsSecrets (issueCommand w) := by
  rintro s _ ⟨v, key0, key1, data, rfl⟩
  exact ⟨v, key0, key1, data, rfl⟩

theorem keepsSecrets_stallRequest : KeepsSecrets stallRequest := by
  rintro s _ ⟨v, key0, key1, data, rfl⟩
  exact ⟨v, key0, key1, data, rfl⟩

theorem keepsSecrets_finishRequest (a : Answer) : KeepsSecrets (finishRequest a) := by
  rintro s _ ⟨v, key0, key1, data, rfl⟩
  exact ⟨v, key0, key1, data, rfl⟩

theorem keepsSecrets_tick : KeepsSecrets tick := by
  rintro s _ ⟨v, key0, key1, data, rfl⟩
  exact ⟨v, key0, key1, data, rfl⟩

theorem keepsSecrets_resetItems : KeepsSecrets resetItems := by
  rintro s _ ⟨v, key0, key1, data, rfl⟩
  exact ⟨SipState.zero, 0, 0, 0, rfl⟩

theorem keepsSecrets_sampleInputs : KeepsSecrets sampleInputs := by
  rintro s _ ⟨v, key0, key1, data, rfl⟩
  refine ⟨v, key0, key1, data, ?_⟩
  obtain ⟨_, _, _, _, _, _, _, _, _, _, _, _, _, _, _, inputs, _, _⟩ := s
  cases inputs <;> rfl

/-! ### The commands but FINAL -/

theorem keepsSecrets_performInit : KeepsSecrets performInit := by
  rintro s _ ⟨v, key0, key1, data, rfl⟩
  exact ⟨initState key0 key1, key0, key1, data, rfl⟩

theorem keepsSecrets_performAbsorb : KeepsSecrets performAbsorb := by
  rintro s _ ⟨v, key0, key1, data, rfl⟩
  exact ⟨absorbBlock v data, key0, key1, data, rfl⟩

theorem keepsSecrets_performAbort : KeepsSecrets performAbort := by
  rintro s _ ⟨v, key0, key1, data, rfl⟩
  exact ⟨SipState.zero, 0, 0, 0, rfl⟩

/-- A completion whose verdict does not depend on the secrets. -/
theorem completeWith_eqButSecrets (verdict : Verdict) {perform : State → State} (hp : KeepsSecrets perform) {s s' : State}
    (h : EqButSecrets s s') : NextEqButSecrets (completeWith verdict perform s) (completeWith verdict perform s') := by
  cases verdict with
  | error code => exact nextEqButSecrets_next (keepsSecrets_closeCommand _ _ (keepsSecrets_recordError code _ _ h))
  | discard => exact nextEqButSecrets_next (keepsSecrets_closeCommand _ _ h)
  | execute => exact nextEqButSecrets_next (keepsSecrets_closeCommand _ _ (hp _ _ h))

theorem EqButSecrets.initCheck_eq {s s' : State} (h : EqButSecrets s s') : initCheck s' = initCheck s := by
  obtain ⟨v, key0, key1, data, rfl⟩ := h
  rfl

theorem EqButSecrets.absorbCheck_eq {s s' : State} (h : EqButSecrets s s') : absorbCheck s' = absorbCheck s := by
  obtain ⟨v, key0, key1, data, rfl⟩ := h
  rfl

/-! ### The accesses -/

theorem EqButSecrets.busy_eq {s s' : State} (h : EqButSecrets s s') : s'.busy = s.busy := by
  obtain ⟨v, key0, key1, data, rfl⟩ := h
  rfl

theorem EqButSecrets.port_eq {s s' : State} (h : EqButSecrets s s') : s'.port = s.port := by
  obtain ⟨v, key0, key1, data, rfl⟩ := h
  rfl

/-- No register reads a secret: the write-only ones read 0 (42_register_access.md R210). -/
theorem EqButSecrets.readValue_eq {s s' : State} (h : EqButSecrets s s') (reg : Reg) : readValue s' reg = readValue s reg := by
  obtain ⟨v, key0, key1, data, rfl⟩ := h
  cases reg <;> rfl

theorem performRequest_eqButSecrets {effect : State → State} (he : KeepsSecrets effect) (a : Answer) {s s' : State}
    (h : EqButSecrets s s') : NextEqButSecrets (performRequest effect a s) (performRequest effect a s') := by
  unfold performRequest
  rw [h.busy_eq]
  split
  · exact nextEqButSecrets_next (keepsSecrets_stallRequest _ _ h)
  · exact nextEqButSecrets_next (keepsSecrets_finishRequest a _ _ (he _ _ h))

theorem performRead_eqButSecrets (reg : Reg) {s s' : State} (h : EqButSecrets s s') :
    NextEqButSecrets (performRead reg s) (performRead reg s') := by
  unfold performRead
  rw [h.readValue_eq reg]
  exact performRequest_eqButSecrets keepsSecrets_id _ h

theorem performStatusRead_eqButSecrets {s s' : State} (h : EqButSecrets s s') :
    NextEqButSecrets (performStatusRead s) (performStatusRead s') := by
  unfold performStatusRead
  rw [h.readValue_eq .status]
  exact nextEqButSecrets_next (keepsSecrets_finishRequest _ _ _ h)

theorem badWrite_eqButSecrets {s s' : State} (h : EqButSecrets s s') : NextEqButSecrets (badWrite s) (badWrite s') :=
  performRequest_eqButSecrets (keepsSecrets_recordError .badAccess) _ h

theorem keepsSecrets_setKey0 (w : Word) : KeepsSecrets fun s => { s with key0 := w, k0ld := true } := by
  rintro s _ ⟨v, key0, key1, data, rfl⟩
  exact ⟨v, w, key1, data, rfl⟩

theorem keepsSecrets_setKey1 (w : Word) : KeepsSecrets fun s => { s with key1 := w, k1ld := true } := by
  rintro s _ ⟨v, key0, key1, data, rfl⟩
  exact ⟨v, key0, w, data, rfl⟩

theorem keepsSecrets_setData (w : Word) : KeepsSecrets fun s => { s with data := w } := by
  rintro s _ ⟨v, key0, key1, data, rfl⟩
  exact ⟨v, key0, key1, w, rfl⟩

/-! ### Every instruction but FINAL, and the step -/

theorem exec_readInstr_eqButSecrets (reg : Reg) {s s' : State} (h : EqButSecrets s s') :
    NextEqButSecrets (exec (readInstr reg) s) (exec (readInstr reg) s') := by
  cases reg with
  | status => exact performStatusRead_eqButSecrets h
  | _ => exact performRead_eqButSecrets _ h

theorem exec_writeInstr_eqButSecrets (v : Word) (reg : Reg) {s s' : State} (h : EqButSecrets s s') :
    NextEqButSecrets (exec (writeInstr v reg) s) (exec (writeInstr v reg) s') := by
  cases reg with
  | key0 => exact performRequest_eqButSecrets (keepsSecrets_setKey0 v) .written h
  | key1 => exact performRequest_eqButSecrets (keepsSecrets_setKey1 v) .written h
  | data => exact performRequest_eqButSecrets (keepsSecrets_setData v) .written h
  | cmd => exact performRequest_eqButSecrets (keepsSecrets_issueCommand v) .written h
  | _ => exact badWrite_eqButSecrets h

/-- The opcode field of a word, as a number (30_encoding.md R101). -/
theorem toNat_opcodeField (w : Word) : (opcodeField w).toNat = w.toNat % 256 := by
  simp [opcodeField]

theorem completeRejected_eqButSecrets (why : Reject) {s s' : State} (h : EqButSecrets s s') :
    NextEqButSecrets (completeRejected why s) (completeRejected why s') := by
  unfold completeRejected
  split <;> exact completeWith_eqButSecrets _ keepsSecrets_id h

theorem completeWord_eqButSecrets {w : Word} (hw : w.toNat % 256 ≠ 3) {s s' : State} (h : EqButSecrets s s') :
    NextEqButSecrets (completeWord w s) (completeWord w s') := by
  unfold completeWord
  cases hd : decode (.command w) with
  | rejected why => exact completeRejected_eqButSecrets why h
  | instr i =>
    obtain ⟨-, c⟩ := decodeCommand_cases hd
    rcases c with ⟨-, -, rfl⟩ | ⟨-, -, rfl⟩ | ⟨-, -, rfl⟩ | ⟨hop, -⟩ | ⟨-, -, rfl⟩
    · exact completeWith_eqButSecrets .execute keepsSecrets_id h
    · simp only [exec, execInit, h.initCheck_eq]
      exact completeWith_eqButSecrets _ keepsSecrets_performInit h
    · simp only [exec, execAbsorb, h.absorbCheck_eq]
      exact completeWith_eqButSecrets _ keepsSecrets_performAbsorb h
    · exact absurd (by rw [← toNat_opcodeField, hop]; rfl) hw
    · exact completeWith_eqButSecrets .execute keepsSecrets_performAbort h

theorem serveRequest_eqButSecrets (r : Request) {s s' : State} (h : EqButSecrets s s') :
    NextEqButSecrets (serveRequest r s) (serveRequest r s') := by
  unfold serveRequest
  split
  · rename_i i hd
    obtain ⟨reg, ⟨-, rfl⟩ | ⟨v, -, rfl⟩⟩ := registerRequest_of_decodeRequest hd
    · exact exec_readInstr_eqButSecrets reg h
    · exact exec_writeInstr_eqButSecrets v reg h
  · exact performRequest_eqButSecrets keepsSecrets_id _ h
  · rintro _ ⟨⟩
  · exact badWrite_eqButSecrets h

theorem readStatusAfter_eqButSecrets {s s' : State} (h : EqButSecrets s s') :
    NextEqButSecrets (readStatusAfter s) (readStatusAfter s') := by
  unfold readStatusAfter
  rw [h.port_eq]
  split
  · exact performStatusRead_eqButSecrets h
  · exact nextEqButSecrets_next h

theorem serveEvent_eqButSecrets {e : Event} (he : ∀ w, e = .complete w → w.toNat % 256 ≠ 3) {s s' : State}
    (h : EqButSecrets s s') : NextEqButSecrets (serveEvent e s) (serveEvent e s') := by
  cases e with
  | reset => exact nextEqButSecrets_next (keepsSecrets_resetItems _ _ h)
  | complete w =>
    have hw := completeWord_eqButSecrets (he w rfl) h
    simp only [serveEvent]
    cases hc : completeWord w s with
    | next u =>
      obtain ⟨u', hu', hsame⟩ := hw u hc
      rw [hu']
      exact readStatusAfter_eqButSecrets hsame
    | fault f => cases f
    | refused why => rintro _ ⟨⟩
  | request r => exact serveRequest_eqButSecrets r (keepsSecrets_tick _ _ h)
  | quiet => exact nextEqButSecrets_next (keepsSecrets_tick _ _ h)

/-- The event of a cycle does not depend on the secrets. -/
theorem EqButSecrets.nextEvent_eq {s s' : State} (h : EqButSecrets s s') : nextEvent s' = nextEvent s := by
  unfold nextEvent
  obtain ⟨v, key0, key1, data, hs'⟩ := keepsSecrets_sampleInputs _ _ h
  rw [hs']
  rfl

/-- Settles O54: the secrets decide neither the event nor a check nor an answer, and only FINAL writes one elsewhere. -/
theorem secretsReachTheHostOnlyAsATag : Obligations.SecretsReachTheHostOnlyAsATag := by
  intro s t v key0 key1 data hfinal h
  have heq : EqButSecrets s (withSecrets v key0 key1 data s) := ⟨v, key0, key1, data, rfl⟩
  obtain ⟨t', ht', v', key0', key1', data', rfl⟩ :=
    serveEvent_eqButSecrets hfinal (keepsSecrets_sampleInputs _ _ heq) t h
  refine ⟨v', key0', key1', data', ?_⟩
  rw [step_eq_serveEvent, heq.nextEvent_eq]
  exact ht'

end Sys2Proof.Machine
end

section
/-! PROOFS of 20_memory.md R74, R75, R77 and R80: what serving one request of the window does. -/

namespace Sys2Proof.Machine

/-! ### Which requests lie in the window -/

/-- Every register lies in the window (10_state.md R48, 20_memory.md R75). -/
theorem registerRequest_inWindow (reg : Reg) (access : Access) : (registerRequest reg access).inWindow = true := by
  cases reg <;> rfl

/-- A request with a byte outside the window has no meaning (20_memory.md R75, 92_eei_decisions.md D40). -/
theorem decodeRequest_outside {r : Request} (h : r.inWindow = false) : decodeRequest r = .rejected .outsideWindow := by
  cases hd : decodeRequest r with
  | instr i =>
    obtain ⟨reg, ⟨rfl, -⟩ | ⟨v, rfl, -⟩⟩ := registerRequest_of_decodeRequest hd <;> simp [registerRequest_inWindow] at h
  | rejected why =>
    obtain ⟨-, rfl⟩ | ⟨hw, -⟩ | ⟨hw, -⟩ := decodeRequest_rejected hd
    · rfl
    all_goals simp [h] at hw

theorem serveRequest_outside {r : Request} (h : r.inWindow = false) (s : State) :
    serveRequest r s = .refused .outsideWindow := by
  simp only [serveRequest, decode, decodeRequest_outside h]

/-- Settles O33: the decoder gives such a request no meaning, so serving it, in whatever state, answers the refusal. -/
theorem crossingRequestsAreRefused : Obligations.CrossingRequestsAreRefused := by
  intro s r hw
  refine ⟨serveRequest_outside hw s, fun he => ?_⟩
  rw [step_eq_serveEvent, he]
  exact serveRequest_outside hw _

/-! ### A request of the window, as a transaction under the stall rule -/

/-- The aligned 8-byte reads but that of STATUS are subject to the stall rule. -/
theorem exec_readInstr {reg : Reg} (h : reg ≠ .status) (s : State) : exec (readInstr reg) s = performRead reg s := by
  cases reg with
  | status => exact absurd rfl h
  | _ => rfl

/-- The aligned 8-byte writes are writes under the stall rule, each with its effect. -/
theorem exec_writeInstr (v : Word) (reg : Reg) (s : State) : ∃ effect, exec (writeInstr v reg) s = performWrite effect s := by
  cases reg with
  | key0 => exact ⟨fun s => { s with key0 := v, k0ld := true }, rfl⟩
  | key1 => exact ⟨fun s => { s with key1 := v, k1ld := true }, rfl⟩
  | data => exact ⟨fun s => { s with data := v }, rfl⟩
  | cmd => exact ⟨issueCommand v, rfl⟩
  | _ => exact ⟨recordError .badAccess, rfl⟩

theorem serveRequest_instr {r : Request} {i : Instr} (h : decodeRequest r = .instr i) (s : State) :
    serveRequest r s = exec i s := by
  simp only [serveRequest, decode, h]

/-- A read of the window: STATUS, another register, or one that is narrow or misaligned (20_memory.md R74). -/
theorem serveRequest_read {r : Request} (hw : r.inWindow = true) (ha : r.access = .read) :
    (r = statusRead ∧ ∀ s, serveRequest r s = performStatusRead s) ∨
    (∃ reg, ∀ s, serveRequest r s = performRead reg s) ∨
    ∀ s, serveRequest r s = badRead r.size s := by
  cases hd : decodeRequest r with
  | instr i =>
    obtain ⟨reg, ⟨rfl, rfl⟩ | ⟨v, rfl, -⟩⟩ := registerRequest_of_decodeRequest hd
    · by_cases hreg : reg = .status
      · subst hreg
        exact .inl ⟨rfl, serveRequest_instr hd⟩
      · exact .inr (.inl ⟨reg, fun s => (serveRequest_instr hd s).trans (exec_readInstr hreg s)⟩)
    · cases ha
  | rejected why =>
    obtain ⟨ho, -⟩ | ⟨-, -, rfl⟩ | ⟨-, ⟨v, hv⟩, -⟩ := decodeRequest_rejected hd
    · simp [hw] at ho
    · exact .inr (.inr fun s => by simp only [serveRequest, decode, hd])
    · simp [ha] at hv

/-- A write of the window is a write under the stall rule, with an effect or none (20_memory.md R74, R80). -/
theorem serveRequest_write {r : Request} {v : Word} (hw : r.inWindow = true) (ha : r.access = .write v) (s : State) :
    ∃ effect, serveRequest r s = performWrite effect s := by
  cases hd : decodeRequest r with
  | instr i =>
    rw [serveRequest_instr hd]
    obtain ⟨reg, ⟨rfl, -⟩ | ⟨v, rfl, rfl⟩⟩ := registerRequest_of_decodeRequest hd
    · cases ha
    · exact exec_writeInstr v reg s
  | rejected why =>
    obtain ⟨ho, -⟩ | ⟨-, hr, -⟩ | ⟨-, -, rfl⟩ := decodeRequest_rejected hd
    · simp [hw] at ho
    · simp [ha] at hr
    · exact ⟨recordError .badAccess, by simp only [serveRequest, decode, hd, badWrite]⟩

/-- Ready is 1: the transaction was performed (70_reset_and_hazards.md R281). -/
abbrev Answered (a : Answer) : Prop :=
  a = .written ∨ ∃ bytes, a = .returned bytes

/-- The stall rule: every request of the window but the STATUS read waits for the command in flight (20_memory.md R80). -/
theorem serveRequest_eq_performRequest {r : Request} (hw : r.inWindow = true) (hs : r ≠ statusRead) (s : State) :
    ∃ effect a, Answered a ∧ serveRequest r s = performRequest effect a s := by
  cases ha : r.access with
  | read =>
    obtain ⟨hr, -⟩ | ⟨reg, hr⟩ | hr := serveRequest_read hw ha
    · exact absurd hr hs
    · exact ⟨id, _, .inr ⟨_, rfl⟩, hr s⟩
    · exact ⟨id, _, .inr ⟨_, rfl⟩, hr s⟩
  | write v =>
    obtain ⟨effect, hr⟩ := serveRequest_write hw ha s
    exact ⟨effect, .written, .inl rfl, hr⟩

/-- Behind a command the request stalls. -/
theorem serveRequest_stalls {r : Request} {s : State} (hw : r.inWindow = true) (hs : r ≠ statusRead) (hb : s.busy = true) :
    serveRequest r s = .next (stallRequest s) := by
  obtain ⟨effect, a, -, hr⟩ := serveRequest_eq_performRequest hw hs s
  rw [hr, performRequest_stalls effect a hb]

/-- With no command in flight the request is performed and answered. -/
theorem serveRequest_answers {r : Request} {s : State} (hw : r.inWindow = true) (hs : r ≠ statusRead) (hb : s.busy = false) :
    ∃ t, serveRequest r s = .next t ∧ Answered t.answer := by
  obtain ⟨effect, a, ha, hr⟩ := serveRequest_eq_performRequest hw hs s
  exact ⟨finishRequest a (effect s), by rw [hr, performRequest_performs effect a hb], ha⟩

theorem busy_eq_true {s : State} : s.busy = true ↔ s.inflight ≠ none := by
  simp [State.busy, Option.isSome_iff_ne_none]

theorem busy_eq_false {s : State} : s.busy = false ↔ s.inflight = none := by
  simp [State.busy]

/-- Settles O31: the stall rule, with a command in flight. -/
theorem transactionsStallBehindACommand : Obligations.TransactionsStallBehindACommand := by
  intro s r hf hw hs
  exact serveRequest_stalls hw hs (busy_eq_true.mpr hf)

/-! ### Narrow and misaligned accesses -/

/-- A request that is no aligned one of 8 bytes is no instruction (20_memory.md R74, R79). -/
theorem decodeRequest_ineffective {r : Request} (h : ¬(r.size = .eight ∧ r.off.toNat % 8 = 0)) :
    ∃ why, decodeRequest r = .rejected why := by
  cases hd : decodeRequest r with
  | rejected why => exact ⟨why, rfl⟩
  | instr i =>
    have heff : r.effective = true := by
      obtain ⟨reg, ⟨rfl, -⟩ | ⟨v, rfl, -⟩⟩ := registerRequest_of_decodeRequest hd <;> exact registerRequest_effective reg _
    exact absurd (by simpa [Request.effective] using heff) h

/-- Settles O32: the decoder rejects the access as a bad read or a bad write, and nothing makes it wait. -/
theorem narrowAndMisalignedAccessesAreIneffective : Obligations.NarrowAndMisalignedAccessesAreIneffective := by
  intro s r hf hw hn
  have hb : s.busy = false := busy_eq_false.mpr hf
  obtain ⟨why, hd⟩ := decodeRequest_ineffective hn
  obtain ⟨ho, -⟩ | ⟨-, hr, rfl⟩ | ⟨-, ⟨v, hv⟩, rfl⟩ := decodeRequest_rejected hd
  · simp [hw] at ho
  · refine ⟨fun _ => ?_, fun v hv => by simp [hr] at hv⟩
    simp only [serveRequest, decode, hd, badRead]
    rw [performRequest_performs _ _ hb]
    rfl
  · refine ⟨fun hr => by simp [hv] at hr, fun _ _ => ?_⟩
    simp only [serveRequest, decode, hd, badWrite, performWrite]
    rw [performRequest_performs _ _ hb, recordError_eq]
    rfl

/-! ### Reads -/

/-- A transaction without effect changes nothing but the port and its answer, which depend on neither. -/
theorem performRequest_id_answer (a : Answer) (s : State) :
    ∃ b, ∀ p c, ∃ q, performRequest id a { s with port := p, answer := c } = .next { s with port := q, answer := b } := by
  cases hb : s.busy with
  | true => exact ⟨.stalled, fun p c => ⟨p, performRequest_stalls id a hb⟩⟩
  | false => exact ⟨a, fun p c => ⟨p.tail, performRequest_performs id a hb⟩⟩

/-- No register's value depends on the port or on the answer (10_state.md R48). -/
theorem readValue_interface (reg : Reg) (s : State) (p : List Request) (c : Answer) :
    readValue { s with port := p, answer := c } reg = readValue s reg := by
  cases reg <;> rfl

/-- A read of the window changes nothing but the port and its answer, which depends on neither (20_memory.md R77). -/
theorem serveRequest_read_answer {r : Request} (hw : r.inWindow = true) (ha : r.access = .read) (s : State) :
    ∃ b, ∀ p c, ∃ q, serveRequest r { s with port := p, answer := c } = .next { s with port := q, answer := b } := by
  obtain ⟨-, hr⟩ | ⟨reg, hr⟩ | hr := serveRequest_read hw ha
  · exact ⟨.returned (leBytes (statusWord s)), fun p c => ⟨p.tail, hr _⟩⟩
  · simp only [hr, performRead, readValue_interface]
    exact performRequest_id_answer _ s
  · simp only [hr, badRead]
    exact performRequest_id_answer _ s

/-- Settles O34: the answer is the same at the port it finds and at the port it leaves. -/
theorem readsHaveNoEffect : Obligations.ReadsHaveNoEffect := by
  intro s r hw ha
  obtain ⟨b, hserve⟩ := serveRequest_read_answer hw ha s
  obtain ⟨p, hp⟩ := hserve s.port s.answer
  exact ⟨b, p, hp, hserve p b⟩

end Sys2Proof.Machine
end

section
/-! PROOFS of 20_memory.md R75 and R81: how requests come to the port, and that they stay in the window. -/

namespace Sys2Proof.Machine

/-! ### The platform -/

/-- The window offset of an access whose every byte lies in the window (20_memory.md R75). -/
theorem windowOffset_eq_some {p : Config.Platform} {addr : Nat} {size : AccessSize} {off : BitVec 6} :
    windowOffset p addr size = some off ↔
      p.base ≤ addr ∧ addr + size.bytes ≤ p.base + 64 ∧ off = BitVec.ofNat 6 (addr - p.base) := by
  rw [windowOffset, Option.ite_none_right_eq_some, Option.some_inj, and_assoc, eq_comm (a := off)]
  rfl

theorem windowOffset_eq_none {p : Config.Platform} {addr : Nat} {size : AccessSize} :
    windowOffset p addr size = none ↔ addr < p.base ∨ p.base + 64 < addr + size.bytes := by
  rw [windowOffset, Config.windowBytes, ite_eq_right_iff]
  simp only [reduceCtorEq, imp_false]
  omega

/-- An access the platform routes joins the port last (log entry 8). -/
theorem hostAccess_routed {p : Config.Platform} {addr : Nat} {size : AccessSize} {off : BitVec 6}
    (h : windowOffset p addr size = some off) (access : Access) (s : State) :
    hostAccess p addr size access s = .next { s with port := s.port ++ [{ off := off, size := size, access := access }] } := by
  simp only [hostAccess, h]

theorem hostAccess_refused {p : Config.Platform} {addr : Nat} {size : AccessSize} (h : windowOffset p addr size = none)
    (access : Access) (s : State) : hostAccess p addr size access s = .refused .outsideWindow := by
  simp only [hostAccess, h]

/-- Settles O59: both clauses are the two answers of `windowOffset`. -/
theorem thePlatformRoutesOnlyTheWindow : Obligations.ThePlatformRoutesOnlyTheWindow := by
  intro p addr size access s _
  refine ⟨?_, fun h => hostAccess_refused (windowOffset_eq_none.mpr h) access s⟩
  rintro off rfl hoff
  have hroute : windowOffset p (p.base + off) size = some (BitVec.ofNat 6 off) :=
    windowOffset_eq_some.mpr ⟨by omega, by omega, by rw [Nat.add_sub_cancel_left]⟩
  exact hostAccess_routed hroute access s

theorem AccessSize.bytes_pos (size : AccessSize) : 0 < size.bytes := by
  cases size <;> decide

/-- A routed access lies in the window as the port receives it. -/
theorem inWindow_of_windowOffset {p : Config.Platform} {addr : Nat} {size : AccessSize} {off : BitVec 6}
    (h : windowOffset p addr size = some off) (access : Access) :
    ({ off := off, size := size, access := access } : Request).inWindow = true := by
  obtain ⟨hlo, hhi, rfl⟩ := windowOffset_eq_some.mp h
  have hpos := AccessSize.bytes_pos size
  have hoff : (BitVec.ofNat 6 (addr - p.base)).toNat = addr - p.base := by
    rw [BitVec.toNat_ofNat]
    exact Nat.mod_eq_of_lt (by omega)
  simp only [Request.inWindow, Config.windowBytes, hoff, decide_eq_true_eq]
  omega

/-! ### The cycle's inputs -/

/-- What stands at the port after the cycle's inputs stood there before or arrives with them. -/
theorem mem_portAfter {c : CycleInput} {s : State} {r : Request} (h : r ∈ portAfter c s) : r ∈ s.port ∨ r ∈ c.request := by
  rw [portAfter, List.mem_append, Option.mem_toList] at h
  refine h.imp_left fun hp => ?_
  split at hp
  · simp at hp
  · exact hp

theorem routedByPlatform_sampleInputs {s : State} (h : RoutedByPlatform s) : RoutedByPlatform (sampleInputs s) := by
  obtain ⟨hport, hinputs⟩ := h
  unfold sampleInputs
  split
  · exact ⟨hport, hinputs⟩
  · rename_i c rest hc
    rw [hc, List.forall_mem_cons] at hinputs
    obtain ⟨harrives, hlater⟩ := hinputs
    exact ⟨fun r hr => (mem_portAfter hr).elim (hport r) (harrives r), hlater⟩

theorem noReset_sampleInputs {s : State} (h : NoReset s) : NoReset (sampleInputs s) := by
  obtain ⟨hrst, hinputs⟩ := h
  unfold sampleInputs
  split
  · exact ⟨hrst, hinputs⟩
  · rename_i c rest hc
    rw [hc] at hinputs
    exact List.forall_mem_cons.mp hinputs

/-- With no reset, what stands first at the port stays there through the cycle's inputs, and is not answered by them. -/
theorem sampleInputs_port_cons {s : State} {r : Request} {rest : List Request} (h : NoReset s) (hp : s.port = r :: rest) :
    (∃ rest', (sampleInputs s).port = r :: rest') ∧ (sampleInputs s).answer = .stalled := by
  obtain ⟨-, hinputs⟩ := h
  unfold sampleInputs
  split
  · simp [hp, restingAnswer]
  · rename_i c _ hc
    have hcr : c.rst = false := hinputs c (by simp [hc])
    simp [portAfter, hcr, hp, restingAnswer]

/-! ### The interface after a step -/

theorem Completed.rst_eq {w : Word} {s t : State} (h : Completed w s t) : t.rst = s.rst := by
  cases h <;> simp

theorem Completed.answer_eq {w : Word} {s t : State} (h : Completed w s t) : t.answer = s.answer := by
  cases h <;> simp

theorem Completed.inputs_eq {w : Word} {s t : State} (h : Completed w s t) : t.inputs = s.inputs := by
  cases h <;> simp

theorem Completed.inflight_eq {w : Word} {s t : State} (h : Completed w s t) : t.inflight = none := by
  cases h <;> simp

/-- Of the interface and the inputs, t has what s has, but for the answer and for the request that may have left the port. -/
structure PortServed (s t : State) : Prop where
  rst : t.rst = s.rst
  inputs : t.inputs = s.inputs
  port : t.port = s.port ∨ t.port = s.port.tail

theorem Completed.portServed {w : Word} {s t : State} (h : Completed w s t) : PortServed s t :=
  ⟨h.rst_eq, h.inputs_eq, .inl h.port_eq⟩

theorem Served.portServed {r : Request} {s t : State} (h : Served r s t) : PortServed s t := by
  cases h <;> constructor <;> simp

/-- After its inputs, a step at most takes the request it performed off the port. -/
theorem Stepped.portServed {s t : State} (h : Stepped s t) : PortServed s t := by
  cases h with
  | reset => constructor <;> simp
  | completes w _ _ hc => exact hc.portServed
  | completesAndReads w _ _ hc => constructor <;> simp [hc.rst_eq, hc.inputs_eq, hc.port_eq]
  | serves r rest _ _ _ _ hs =>
    obtain ⟨hrst, hinputs, hport⟩ := hs.portServed
    exact ⟨hrst, hinputs, hport⟩
  | passes => constructor <;> simp

theorem PortServed.noReset {s t : State} (h : PortServed s t) (hs : NoReset s) : NoReset t := by
  simpa only [NoReset, h.rst, h.inputs] using hs

theorem PortServed.routedByPlatform {s t : State} (h : PortServed s t) (hs : RoutedByPlatform s) : RoutedByPlatform t := by
  obtain ⟨hport, hinputs⟩ := hs
  refine ⟨fun r hr => hport r ?_, by rwa [h.inputs]⟩
  obtain hp | hp := h.port <;> rw [hp] at hr
  · exact hr
  · exact List.mem_of_mem_tail hr

theorem noReset_of_step {s t : State} (hs : NoReset s) (h : step s = .next t) : NoReset t :=
  (stepped_of_step h).portServed.noReset (noReset_sampleInputs hs)

theorem routedByPlatform_of_step {s t : State} (hs : RoutedByPlatform s) (h : step s = .next t) : RoutedByPlatform t :=
  (stepped_of_step h).portServed.routedByPlatform (routedByPlatform_sampleInputs hs)

theorem routedByPlatform_of_hostAccess {p : Config.Platform} {addr : Nat} {size : AccessSize} {access : Access} {s t : State}
    (hs : RoutedByPlatform s) (h : hostAccess p addr size access s = .next t) : RoutedByPlatform t := by
  obtain ⟨hport, hinputs⟩ := hs
  cases hw : windowOffset p addr size with
  | none => rw [hostAccess_refused hw] at h; cases h
  | some off =>
    rw [hostAccess_routed hw] at h
    cases h
    refine ⟨fun r hr => ?_, hinputs⟩
    obtain hr | hr := List.mem_append.mp hr
    · exact hport r hr
    · rw [List.mem_singleton.mp hr]
      exact inWindow_of_windowOffset hw access

/-- Settles O41: a step adds to the port only what its inputs bring, and the platform only what it routes. -/
theorem requestsStayInTheWindow : Obligations.RequestsStayInTheWindow :=
  ⟨fun _ _ hs h => routedByPlatform_of_step hs h, fun _ _ _ _ _ _ hs h => routedByPlatform_of_hostAccess hs h⟩

end Sys2Proof.Machine
end

section
/-! PROOFS of 20_memory.md R80 and R81: the request at the head of the port is served, after the command it stalls behind. -/

namespace Sys2Proof.Machine

/-! ### The events of a cycle without a reset -/

/-- No command is due: the event is the request at the head of the port (20_memory.md R81). -/
theorem nextEvent_request {s : State} {r : Request} {rest : List Request} (hr : (sampleInputs s).rst = false)
    (hf : ∀ w, s.inflight ≠ some { word := w, left := 0 }) (hp : (sampleInputs s).port = r :: rest) :
    nextEvent s = .request r := by
  -- `hf` excludes the first arm of `selectEvent`.
  simp only [nextEvent, selectEvent, hr, Bool.false_eq_true, if_false, sampleInputs_inflight, hp]

/-- A command is due: the event is its completion (41_commands.md R160). -/
theorem nextEvent_complete {s : State} {w : Word} (hr : (sampleInputs s).rst = false)
    (hf : s.inflight = some { word := w, left := 0 }) : nextEvent s = .complete w := by
  simp [nextEvent, selectEvent, hr, hf]

theorem step_of_request {s : State} {r : Request} (h : nextEvent s = .request r) :
    step s = serveRequest r (tick (sampleInputs s)) := by
  rw [step_eq_serveEvent, h]
  rfl

/-- Settles O35: the event is the request, and serving it is exec of what it decodes to, one cycle of LAT passed. -/
theorem stepRunsTheRequestedAccess : Obligations.StepRunsTheRequestedAccess := by
  intro s r rest i hr hf hp hd
  rw [step_of_request (nextEvent_request hr hf hp), serveRequest_instr hd, tick, sampleInputs_inflight]

/-! ### Completions answer -/

theorem completeWith_next (verdict : Verdict) (perform : State → State) (s : State) :
    ∃ t, completeWith verdict perform s = .next t := by
  cases verdict <;> exact ⟨_, rfl⟩

/-- The completion of any word gives a state (41_commands.md R161). -/
theorem completeWord_next (w : Word) (s : State) : ∃ t, completeWord w s = .next t := by
  unfold completeWord
  cases hd : decode (.command w) with
  | rejected why =>
    simp only [completeRejected]
    split <;> exact completeWith_next _ _ s
  | instr i =>
    obtain ⟨-, c⟩ := decodeCommand_cases hd
    rcases c with ⟨-, -, rfl⟩ | ⟨-, -, rfl⟩ | ⟨-, -, rfl⟩ | ⟨-, rfl⟩ | ⟨-, -, rfl⟩
    · exact completeWith_next .execute id s
    · exact completeWith_next (initCheck s) performInit s
    · exact completeWith_next (absorbCheck s) performAbsorb s
    · exact completeWith_next (jobCheck s) (performFinal (remField w)) s
    · exact completeWith_next .execute performAbort s

/-- The completion that is due is the step, where no STATUS read stands at the port. -/
theorem step_of_complete {s v : State} {w : Word} (he : nextEvent s = .complete w)
    (hs : (sampleInputs s).port.head? ≠ some statusRead) (hv : completeWord w (sampleInputs s) = .next v) :
    step s = .next v := by
  have hport : v.port = (sampleInputs s).port := (completed_of_completeWord hv).port_eq
  rw [step_eq_serveEvent, he]
  simp only [serveEvent, hv, readStatusAfter, hport, hs, if_false]

/-! ### A request that waits behind a command -/

/-- With no reset to come, the request r, no STATUS read, stands first at the port behind the word w, n cycles before its
completion (20_memory.md R80). -/
structure Waiting (w : Word) (r : Request) (n : Nat) (s : State) : Prop where
  noReset : NoReset s
  routed : RoutedByPlatform s
  flight : s.inflight = some { word := w, left := n }
  head : ∃ rest, s.port = r :: rest
  notStatus : r ≠ statusRead

section
variable {w : Word} {r : Request} {n : Nat} {s : State}

theorem Waiting.inWindow (h : Waiting w r n s) : r.inWindow = true := by
  obtain ⟨rest, hp⟩ := h.head
  exact h.routed.1 r (by simp [hp])

/-- The cycle's inputs leave the request unanswered at the head of the port. -/
theorem Waiting.after_inputs (h : Waiting w r n s) :
    Waiting w r n (sampleInputs s) ∧ (sampleInputs s).answer = .stalled := by
  obtain ⟨rest, hp⟩ := h.head
  obtain ⟨hhead, hanswer⟩ := sampleInputs_port_cons h.noReset hp
  exact ⟨⟨noReset_sampleInputs h.noReset, routedByPlatform_sampleInputs h.routed, by simp [h.flight], hhead, h.notStatus⟩,
    hanswer⟩

/-- While cycles of LAT are left, a step leaves the request stalled and one cycle less. -/
theorem Waiting.step_stalls (h : Waiting w r (n + 1) s) :
    ∃ t, step s = .next t ∧ t.answer = .stalled ∧ Waiting w r n t := by
  obtain ⟨hsampled, -⟩ := h.after_inputs
  obtain ⟨rest, hp⟩ := hsampled.head
  have he : nextEvent s = .request r := nextEvent_request hsampled.noReset.1 (by simp [h.flight]) hp
  have hstep : step s = .next (stallRequest (tick (sampleInputs s))) := by
    rw [step_of_request he]
    exact serveRequest_stalls h.inWindow h.notStatus (by simp [State.busy, h.flight])
  exact ⟨_, hstep, rfl, noReset_of_step h.noReset hstep, routedByPlatform_of_step h.routed hstep, by simp [h.flight],
    ⟨rest, hp⟩, h.notStatus⟩

/-- When the command is due, the step is its completion, and the request still stands at the port, unanswered. -/
theorem Waiting.step_completes (h : Waiting w r 0 s) :
    ∃ v, completeWord w (sampleInputs s) = .next v ∧ step s = .next v ∧ v.inflight = none ∧ v.answer = .stalled ∧
      ∃ rest, v.port = r :: rest := by
  obtain ⟨hsampled, hanswer⟩ := h.after_inputs
  obtain ⟨rest, hp⟩ := hsampled.head
  obtain ⟨v, hv⟩ := completeWord_next w (sampleInputs s)
  have hc := completed_of_completeWord hv
  have hstep : step s = .next v :=
    step_of_complete (nextEvent_complete hsampled.noReset.1 h.flight) (by simpa [hp] using h.notStatus) hv
  exact ⟨v, hv, hstep, hc.inflight_eq, hc.answer_eq.trans hanswer, rest, hc.port_eq.trans hp⟩

/-- Through the completion, every step leaves the request stalled at the head of the port. -/
theorem Waiting.step_keeps (h : Waiting w r n s) :
    ∃ t, step s = .next t ∧ t.answer = .stalled ∧ t.port.head? = some r := by
  cases n with
  | zero =>
    obtain ⟨v, -, hstep, -, hanswer, rest, hp⟩ := h.step_completes
    exact ⟨v, hstep, hanswer, by simp [hp]⟩
  | succ n =>
    obtain ⟨t, hstep, hanswer, ht⟩ := h.step_stalls
    obtain ⟨rest, hp⟩ := ht.head
    exact ⟨t, hstep, hanswer, by simp [hp]⟩

/-- The request waits while the cycles of LAT pass. -/
theorem Waiting.through_latency {k : Nat} (h : Waiting w r n s) (hk : k ≤ n) : ∃ u, run k s = .next u ∧ Waiting w r (n - k) u := by
  induction k generalizing n s with
  | zero => exact ⟨s, run_zero s, h⟩
  | succ k ih =>
    obtain ⟨m, rfl⟩ : ∃ m, n = m + 1 := ⟨n - 1, by omega⟩
    obtain ⟨t, hstep, -, ht⟩ := h.step_stalls
    obtain ⟨u, hu, hwait⟩ := ih ht (by omega)
    exact ⟨u, by rw [run_succ hstep, hu], by rwa [Nat.add_sub_add_right]⟩

end

/-- With no command in flight, the request at the head of the port is served, in the state its cycle's inputs give. -/
theorem step_serves_head {s : State} {r : Request} {rest : List Request} (hn : NoReset s) (hf : s.inflight = none)
    (hp : s.port = r :: rest) : step s = serveRequest r (sampleInputs s) := by
  obtain ⟨⟨rest', hp'⟩, -⟩ := sampleInputs_port_cons hn hp
  rw [step_of_request (nextEvent_request (noReset_sampleInputs hn).1 (by simp [hf]) hp'), tick_of_no_flight (by simpa using hf)]

/-- A run's last step. -/
theorem run_add_one {k : Nat} {s u t : State} (hu : run k s = .next u) (ht : step u = .next t) : run (k + 1) s = .next t := by
  rw [run_add hu]
  exact run_succ ht

/-- Settles O56: the request waits n steps, through the completion in one more, and the next step finds no command in flight. -/
theorem aStalledTransactionIsPerformed : Obligations.AStalledTransactionIsPerformed := by
  intro s w n r rest hn hrouted hf hp hs
  have hwait : Waiting w r n s := ⟨hn, hrouted, hf, ⟨rest, hp⟩, hs⟩
  refine ⟨fun k hk => ?_, ?_⟩
  · obtain ⟨u, hu, hwait⟩ := hwait.through_latency hk
    obtain ⟨t, hstep, hstalled, hhead⟩ := hwait.step_keeps
    exact ⟨t, run_add_one hu hstep, hstalled, hhead⟩
  · obtain ⟨u, hu, hdue⟩ := hwait.through_latency le_rfl
    rw [Nat.sub_self] at hdue
    obtain ⟨v, hv, hstep, hidle, -, rest', hp'⟩ := hdue.step_completes
    have hrun : run (n + 1) s = .next v := run_add_one hu hstep
    obtain ⟨t, ht, hanswer⟩ := serveRequest_answers (s := sampleInputs v) hwait.inWindow hs (by simp [State.busy, hidle])
    have hnext : step v = .next t := by rw [step_serves_head (noReset_of_step hdue.noReset hstep) hidle hp', ht]
    have hserved : run (n + 2) s = .next t := run_add_one hrun hnext
    exact ⟨u, v, t, hu, hv, hrun, hidle, hserved.trans ht.symm, hserved, hanswer⟩

end Sys2Proof.Machine
end

section
/-! PROOFS of 30_encoding.md R101 to R113: the encoder inverts the decoder, and what the decoder says of every word and request. -/

namespace Sys2Proof.Machine

/-! ### The fields of a command word -/

/-- A word is its three fields, one above the other (30_encoding.md R101). -/
theorem rsvdField_append_remField_append_opcodeField (w : Word) : rsvdField w ++ remField w ++ opcodeField w = w := by
  apply BitVec.eq_of_getLsbD_eq
  intro i hi
  simp only [rsvdField, remField, opcodeField, BitVec.getLsbD_append, BitVec.getLsbD_extractLsb']
  by_cases hop : i < 8
  · simp [hop]
  by_cases hrem : i - 8 < 3
  · simp [hop, hrem, show 8 + (i - 8) = i by omega]
  · simp [hop, hrem, show i - 8 - 3 < 53 by omega, show 11 + (i - 8 - 3) = i by omega]

/-- A word with RSVD zero is the command word of its OPCODE and REM. -/
theorem commandWord_of_fields {w : Word} {op : BitVec 8} {r : BitVec 3} (hrsvd : rsvdField w = 0) (hrem : remField w = r)
    (hop : opcodeField w = op) : commandWord op r = w := by
  rw [← rsvdField_append_remField_append_opcodeField w, hrsvd, hrem, hop]
  rfl

/-! ### Both directions, by format -/

theorem encode_readInstr (reg : Reg) : encode (readInstr reg) = .bus (registerRequest reg .read) := by
  cases reg <;> rfl

theorem encode_writeInstr (v : Word) (reg : Reg) : encode (writeInstr v reg) = .bus (registerRequest reg (.write v)) := by
  cases reg <;> rfl

/-- FINAL keeps its REM operand, each of the eight (30_encoding.md R103). -/
theorem decodeCommand_final (r : BitVec 3) : decodeCommand (commandWord 0x03 r) = .instr (.final r) := by
  revert r
  decide

/-- Decoding inverts encoding: every operand at every value survives. -/
theorem decode_encode (i : Instr) : decode (encode i) = .instr i := by
  cases i with
  | final r => exact decodeCommand_final r
  | _ => rfl

/-- A word that decodes to a command is that command's word: its RSVD is zero, and its REM but for FINAL. -/
theorem encode_of_decodeCommand {w : Word} {i : Instr} (h : decodeCommand w = .instr i) : encode i = .command w := by
  obtain ⟨hrsvd, c⟩ := decodeCommand_cases h
  rcases c with ⟨hop, hrem, rfl⟩ | ⟨hop, hrem, rfl⟩ | ⟨hop, hrem, rfl⟩ | ⟨hop, rfl⟩ | ⟨hop, hrem, rfl⟩
  · exact congrArg Encoded.command (commandWord_of_fields hrsvd hrem hop)
  · exact congrArg Encoded.command (commandWord_of_fields hrsvd hrem hop)
  · exact congrArg Encoded.command (commandWord_of_fields hrsvd hrem hop)
  · exact congrArg Encoded.command (commandWord_of_fields hrsvd rfl hop)
  · exact congrArg Encoded.command (commandWord_of_fields hrsvd hrem hop)

/-- A request that decodes to an access is that access's request. -/
theorem encode_of_decodeRequest {r : Request} {i : Instr} (h : decodeRequest r = .instr i) : encode i = .bus r := by
  obtain ⟨reg, ⟨rfl, rfl⟩ | ⟨v, rfl, rfl⟩⟩ := registerRequest_of_decodeRequest h
  · exact encode_readInstr reg
  · exact encode_writeInstr v reg

/-- Encoding inverts decoding: an instruction has no second encoding. -/
theorem encode_of_decode {e : Encoded} {i : Instr} (h : decode e = .instr i) : encode i = e := by
  cases e with
  | command w => exact encode_of_decodeCommand h
  | bus r => exact encode_of_decodeRequest h

/-- Settles O4: `decode_encode` and `encode_of_decode`. -/
theorem decodeAndEncodeAgree : Obligations.DecodeAndEncodeAgree := by
  intro e i
  constructor
  · intro h
    exact (encode_of_decode h).symm
  · rintro rfl
    exact decode_encode i

/-! ### Command words, over the numbers of their fields -/

/-- The REM field of a word, as a number (30_encoding.md R101). -/
theorem toNat_remField (w : Word) : (remField w).toNat = w.toNat / 256 % 8 := by
  simp [remField, Nat.shiftRight_eq_div_pow]

/-- The RSVD field of a word, as a number (30_encoding.md R101). -/
theorem toNat_rsvdField (w : Word) : (rsvdField w).toNat = w.toNat / 2048 := by
  have hw := w.isLt
  simp only [rsvdField, BitVec.extractLsb'_toNat, Nat.shiftRight_eq_div_pow]
  omega

theorem opcodeField_eq_iff (w : Word) (op : BitVec 8) : opcodeField w = op ↔ w.toNat % 256 = op.toNat := by
  rw [← BitVec.toNat_inj, toNat_opcodeField]

theorem remField_eq_iff (w : Word) (r : BitVec 3) : remField w = r ↔ w.toNat / 256 % 8 = r.toNat := by
  rw [← BitVec.toNat_inj, toNat_remField]

theorem rsvdField_eq_iff (w : Word) (r : BitVec 53) : rsvdField w = r ↔ w.toNat / 2048 = r.toNat := by
  rw [← BitVec.toNat_inj, toNat_rsvdField]

theorem remField_eq_ofNat (w : Word) : remField w = BitVec.ofNat 3 (w.toNat / 256 % 8) := by
  rw [← toNat_remField, BitVec.ofNat_toNat, BitVec.setWidth_eq]

/-- The numbers of the 12 command words (30_encoding.md R110). -/
def commandNumbers : List Nat :=
  [0x0, 0x1, 0x2, 0x4, 0x003, 0x103, 0x203, 0x303, 0x403, 0x503, 0x603, 0x703]

/-- The word of FINAL r, for each r. -/
theorem toNat_finalWord_mem (r : BitVec 3) : (commandWord 0x03 r).toNat ∈ commandNumbers := by
  revert r
  decide

/-- The word of a command is one of the 12. -/
theorem toNat_mem_of_decodeCommand {w : Word} {i : Instr} (h : decodeCommand w = .instr i) : w.toNat ∈ commandNumbers := by
  have hw := encode_of_decodeCommand h
  cases i with
  | final r =>
    cases hw
    exact toNat_finalWord_mem r
  | _ => cases hw <;> decide

/-- Each of the 12 words is a command's. -/
theorem encode_of_mem_commandNumbers : ∀ n ∈ commandNumbers, ∃ i, encode i = .command (BitVec.ofNat 64 n) := by
  simp only [commandNumbers, List.forall_mem_cons, List.not_mem_nil, false_imp_iff, implies_true, and_true]
  exact ⟨⟨.nop, rfl⟩, ⟨.init, rfl⟩, ⟨.absorb, rfl⟩, ⟨.abort, rfl⟩, ⟨.final 0, rfl⟩, ⟨.final 1, rfl⟩, ⟨.final 2, rfl⟩,
    ⟨.final 3, rfl⟩, ⟨.final 4, rfl⟩, ⟨.final 5, rfl⟩, ⟨.final 6, rfl⟩, ⟨.final 7, rfl⟩⟩

/-- Settles O3: each check of the decoder is one on the number of its field. -/
theorem commandDecodingFollowsItsTable : Obligations.CommandDecodingFollowsItsTable := by
  refine ⟨fun w => ?_, fun w => ⟨fun ⟨i, h⟩ => toNat_mem_of_decodeCommand h, fun h => ?_⟩⟩
  · simp only [decode, decodeCommand, toNat_opcodeField, opcodeField_eq_iff, remField_eq_iff, rsvdField_eq_iff, ne_eq]
    rw [remField_eq_ofNat]
    rfl
  · obtain ⟨i, hi⟩ := encode_of_mem_commandNumbers _ h
    rw [BitVec.ofNat_toNat, BitVec.setWidth_eq] at hi
    exact ⟨i, hi ▸ decode_encode i⟩

/-- Settles O1: the seven commands by `decode_encode`, the four others by the check they fail. -/
theorem decodesTheEncodingExamples : Obligations.DecodesTheEncodingExamples := by
  refine ⟨decode_encode .nop, decode_encode .init, decode_encode .absorb, decode_encode (.final 0), decode_encode (.final 1),
    decode_encode (.final 7), decode_encode .abort, ?_, ?_, ?_, ?_⟩ <;> decide

/-! ### Bus requests -/

/-- The aligned 8-byte access to a register is an instruction (30_encoding.md R109, 10_state.md R48). -/
theorem decode_registerRequest (reg : Reg) (access : Access) : ∃ i, decode (.bus (registerRequest reg access)) = .instr i := by
  cases access with
  | read => exact ⟨readInstr reg, encode_readInstr reg ▸ decode_encode _⟩
  | write v => exact ⟨writeInstr v reg, encode_writeInstr v reg ▸ decode_encode _⟩

/-- Every multiple of 8 in the window is a register's offset (10_state.md R48, 20_memory.md R79). -/
theorem exists_offset_eq {off : BitVec 6} (h : off.toNat % 8 = 0) : ∃ reg : Reg, reg.offset = off := by
  have hmem : off ∈ Reg.all.map Reg.offset := by
    revert off
    decide
  obtain ⟨reg, -, hreg⟩ := List.mem_map.mp hmem
  exact ⟨reg, hreg⟩

/-- Settles O5: an aligned 8-byte request is the access to a register, and any other is rejected. -/
theorem exactlyAlignedEightByteAccessesDecode : Obligations.ExactlyAlignedEightByteAccessesDecode := by
  intro r
  constructor
  · rintro ⟨i, hi⟩
    by_contra hr
    obtain ⟨why, hwhy⟩ := decodeRequest_ineffective hr
    cases hwhy.symm.trans hi
  · obtain ⟨off, size, access⟩ := r
    rintro ⟨rfl, hoff⟩
    obtain ⟨reg, rfl⟩ := exists_offset_eq hoff
    exact decode_registerRequest reg access

/-- Settles O2: each descriptor's request is the encoding of its row's instruction. -/
theorem busDescriptorsNameTheirAccess : Obligations.BusDescriptorsNameTheirAccess := by
  intro v
  exact ⟨decode_encode (.wrKey0 v), decode_encode (.wrKey1 v), decode_encode (.wrData v), decode_encode (.wrCmd v),
    decode_encode (.wrStatus v), decode_encode (.wrTag v), decode_encode (.wrMsglen v), decode_encode (.wrId v),
    decode_encode .rdKey0, decode_encode .rdKey1, decode_encode .rdData, decode_encode .rdCmd,
    decode_encode .rdStatus, decode_encode .rdTag, decode_encode .rdMsglen, decode_encode .rdId⟩

end Sys2Proof.Machine
end

section
/-! PROOFS of 30_encoding.md R112: a host that polls STATUS goes on when the command in flight has completed. -/

namespace Sys2Proof.Machine

/-! ### Steps answer -/

/-- A request of the window, served, gives a state. -/
theorem serveRequest_next {r : Request} (hw : r.inWindow = true) (s : State) : ∃ t, serveRequest r s = .next t := by
  by_cases hs : r = statusRead
  · subst hs
    exact ⟨_, rfl⟩
  · obtain ⟨effect, a, -, hr⟩ := serveRequest_eq_performRequest hw hs s
    rw [hr, performRequest]
    split <;> exact ⟨_, rfl⟩

theorem readStatusAfter_next (s : State) : ∃ t, readStatusAfter s = .next t := by
  unfold readStatusAfter
  split <;> exact ⟨_, rfl⟩

/-- A step gives a state, unless it serves a request with a byte outside the window. -/
theorem step_next {s : State} (h : ∀ r, nextEvent s = .request r → r.inWindow = true) : ∃ t, step s = .next t := by
  rw [step_eq_serveEvent]
  cases he : nextEvent s with
  | reset => exact ⟨_, rfl⟩
  | complete w =>
    obtain ⟨v, hv⟩ := completeWord_next w (sampleInputs s)
    obtain ⟨t, ht⟩ := readStatusAfter_next v
    exact ⟨t, by simp only [serveEvent, hv, ht]⟩
  | request r => exact serveRequest_next (h r he) _
  | quiet => exact ⟨_, rfl⟩

theorem mem_port_of_selectEvent {s : State} {r : Request} (h : selectEvent s = .request r) : r ∈ s.port := by
  unfold selectEvent at h
  split at h
  · cases h
  · split at h <;> cases h
    simp [*]

/-- A step gives a state where the platform routes every request (20_memory.md R75). -/
theorem step_next_of_routed {s : State} (h : RoutedByPlatform s) : ∃ t, step s = .next t :=
  step_next fun r he => (routedByPlatform_sampleInputs h).1 r (mem_port_of_selectEvent he)

/-! ### Quiet inputs -/

/-- Quiet inputs stay quiet and bring nothing to the port. -/
theorem quietInputs_sampleInputs {s : State} (h : QuietInputs s) :
    QuietInputs (sampleInputs s) ∧ (sampleInputs s).port = s.port := by
  obtain ⟨hrst, hinputs⟩ := h
  unfold sampleInputs
  split
  · exact ⟨⟨hrst, hinputs⟩, rfl⟩
  · rename_i c rest hc
    rw [hc, List.forall_mem_cons] at hinputs
    obtain ⟨rfl, hlater⟩ := hinputs
    exact ⟨⟨rfl, hlater⟩, by simp [portAfter]⟩

theorem quietInputs_of_step {s t : State} (hs : QuietInputs s) (h : step s = .next t) : QuietInputs t := by
  have hserved := (stepped_of_step h).portServed
  obtain ⟨hq, -⟩ := quietInputs_sampleInputs hs
  simpa only [QuietInputs, hserved.rst, hserved.inputs] using hq

/-- With quiet inputs and nothing but requests of the window at the port, the next step gives a state. -/
theorem step_next_of_quiet {s : State} (hq : QuietInputs s) (hp : ∀ r ∈ s.port, r.inWindow = true) : ∃ t, step s = .next t := by
  refine step_next_of_routed ⟨hp, fun c hc r hr => ?_⟩
  rw [hq.2 c hc] at hr
  cases hr

/-! ### The cycles a command still takes -/

/-- How many cycles pass until no command is in flight: those of LAT that are left, and that of the completion (log entry 2). -/
def State.cyclesLeft (s : State) : Nat :=
  match s.inflight with
  | none => 0
  | some f => f.left + 1

theorem cyclesLeft_of_none {s : State} (h : s.inflight = none) : s.cyclesLeft = 0 := by
  simp only [State.cyclesLeft, h]

theorem cyclesLeft_of_some {s : State} {f : Flight} (h : s.inflight = some f) : s.cyclesLeft = f.left + 1 := by
  simp only [State.cyclesLeft, h]

theorem cyclesLeft_congr {s t : State} (h : t.inflight = s.inflight) : t.cyclesLeft = s.cyclesLeft := by
  simp only [State.cyclesLeft, h]

theorem cyclesLeft_eq_zero {s : State} : s.cyclesLeft = 0 ↔ s.inflight = none := by
  cases h : s.inflight with
  | none => simp [cyclesLeft_of_none h]
  | some f => simp [cyclesLeft_of_some h]

/-- A cycle without a completion takes one off the cycles left. -/
theorem tick_cyclesLeft {s : State} (hf : ∀ w, s.inflight ≠ some { word := w, left := 0 }) :
    (tick s).cyclesLeft = s.cyclesLeft - 1 := by
  cases h : s.inflight with
  | none => rw [tick_of_no_flight h, cyclesLeft_of_none h]
  | some f =>
    have hleft : f.left ≠ 0 := fun h0 => hf f.word (by rw [h, ← h0])
    have htick : (tick s).inflight = some { f with left := f.left - 1 } := by rw [tick_inflight, h, Option.map_some]
    rw [cyclesLeft_of_some htick, cyclesLeft_of_some h]
    show f.left - 1 + 1 = f.left + 1 - 1
    omega

/-- A read issues no command (20_memory.md R77). -/
theorem Served.inflight_eq {r : Request} {s t : State} (h : Served r s t) (ha : r.access = .read) : t.inflight = s.inflight := by
  cases h with
  | issues w hd => cases encode_of_decodeRequest hd; cases ha
  | badAccess => simp
  | _ => rfl

/-- Every cycle takes one off the cycles left, where no reset is asserted and nothing but reads stands at the port. -/
theorem Stepped.cyclesLeft_eq {s t : State} (h : Stepped s t) (hr : s.rst = false) (hp : ∀ r ∈ s.port, r.access = .read) :
    t.cyclesLeft = s.cyclesLeft - 1 := by
  cases h with
  | reset hrst => simp [hr] at hrst
  | completes w _ hf hc =>
    rw [cyclesLeft_of_some hf]
    exact cyclesLeft_of_none hc.inflight_eq
  | completesAndReads w _ hf hc =>
    rw [cyclesLeft_of_some hf]
    exact cyclesLeft_of_none hc.inflight_eq
  | serves r rest _ hport hf _ hs =>
    have hflight : t.inflight = (tick s).inflight := hs.inflight_eq (hp r (by simp [hport]))
    rw [cyclesLeft_congr hflight, tick_cyclesLeft hf]
  | passes _ _ hf => exact tick_cyclesLeft hf

/-- A STATUS read at the head of the port is answered in every cycle without a reset, with STATUS as the cycle leaves it
(42_register_access.md R212; log entry 3). -/
theorem Stepped.statusRead_answer {s t : State} (h : Stepped s t) (hr : s.rst = false) (hp : s.port.head? = some statusRead) :
    t.answer = .returned (leBytes (statusWord t)) := by
  cases h with
  | reset hrst => simp [hr] at hrst
  | completes w _ _ hc hport => rw [hc.port_eq] at hport; exact absurd hp hport
  | completesAndReads => rfl
  | serves r rest _ hport _ hs =>
    rw [hport] at hp
    cases hp
    cases hs
    rfl
  | passes _ hport => simp [hport] at hp

/-- BUSY is bit 0 of STATUS (10_state.md R49). -/
theorem getLsbD_zero_statusWord (s : State) : (statusWord s).getLsbD 0 = s.busy := by
  simp [statusWord]

/-! ### The host -/

/-- The operation at the host's index, in a cycle of the engine that gives the state t (30_encoding.md R111). -/
theorem System.step_of_op {sys : System} {op : HostOp} {t : State} (hop : sys.program[sys.index]? = some op)
    (ht : Sys2Proof.Machine.step { sys.engine with port := op.request.toList } = .next t) :
    sys.step = .next (hostAdvance op t.answer { sys with engine := t }) := by
  simp only [System.step, hop, ht]

theorem hostAdvance_bnz (x : Nat) (mask : Word) (label : Nat) (a : Answer) (sys : System) :
    hostAdvance (.bnz x mask label) a sys =
      { sys with index := if varValue sys.vars x &&& mask ≠ 0 then label else sys.index + 1 } := by
  cases a <;> rfl

theorem varValue_setVar_same (vars : List (Nat × Word)) (x : Nat) (v : Word) : varValue (setVar vars x v) x = v := by
  simp [varValue, setVar]

/-- Masking with 1 leaves bit 0. -/
theorem and_one_ne_zero_iff (v : Word) : v &&& 0x1 ≠ 0 ↔ v.getLsbD 0 = true := by
  rw [show (0x1 : Word) = 1#64 from rfl, BitVec.and_one_eq_setWidth_ofBool_getLsbD]
  cases v.getLsbD 0 <;> decide

/-! ### WAITIDLE -/

/-- The system's program has a WAITIDLE with the variable x at `here`, and the environment brings nothing. -/
structure Polling (x here : Nat) (sys : System) : Prop where
  read : sys.program[here]? = some (.rd .status x)
  branch : sys.program[here + 1]? = some (.bnz x 0x1 here)
  quiet : QuietInputs sys.engine

section
variable {x here : Nat} {sys : System}

/-- In a cycle of the loop the engine steps, with one cycle less to its command, and answers the STATUS read, if there is one. -/
theorem Polling.engine_step (h : Polling x here sys) {p : List Request} (hp : ∀ r ∈ p, r = statusRead) :
    ∃ t, Sys2Proof.Machine.step { sys.engine with port := p } = .next t ∧ QuietInputs t ∧
      t.cyclesLeft = sys.engine.cyclesLeft - 1 ∧
      (p.head? = some statusRead → t.answer = .returned (leBytes (statusWord t))) := by
  have hq : QuietInputs { sys.engine with port := p } := h.quiet
  obtain ⟨⟨hrst, -⟩, hport⟩ := quietInputs_sampleInputs hq
  obtain ⟨t, ht⟩ := step_next_of_quiet hq fun r hr => hp r hr ▸ registerRequest_inWindow .status .read
  have hstepped := stepped_of_step ht
  have hreads : ∀ r ∈ (sampleInputs { sys.engine with port := p }).port, r.access = .read := by
    rw [hport]
    exact fun r hr => hp r hr ▸ rfl
  have hleft : t.cyclesLeft = sys.engine.cyclesLeft - 1 := by
    rw [hstepped.cyclesLeft_eq hrst hreads, cyclesLeft_congr (sampleInputs_inflight _)]
    rfl
  exact ⟨t, ht, quietInputs_of_step hq ht, hleft, fun hhead => hstepped.statusRead_answer hrst (by rwa [hport])⟩

/-- The poll: the host reads STATUS, and finds BUSY as the cycle leaves it. -/
theorem Polling.step_read (h : Polling x here sys) (hi : sys.index = here) :
    ∃ t, sys.step = .next t ∧ Polling x here t ∧ t.index = here + 1 ∧ t.engine.cyclesLeft = sys.engine.cyclesLeft - 1 ∧
      (varValue t.vars x).getLsbD 0 = t.engine.busy := by
  obtain ⟨t, ht, hq, hleft, hanswer⟩ := h.engine_step (p := [statusRead]) (by simp)
  have hstep := System.step_of_op (hi ▸ h.read) ht
  rw [hanswer rfl] at hstep
  refine ⟨_, hstep, ⟨h.read, h.branch, hq⟩, congrArg (· + 1) hi, hleft, ?_⟩
  simp only [hostAdvance, varValue_setVar_same, le64_leBytes, getLsbD_zero_statusWord]

/-- The branch: back to the poll where bit 0 of the variable is set, on where it is not. -/
theorem Polling.step_branch (h : Polling x here sys) (hi : sys.index = here + 1) :
    ∃ t, sys.step = .next t ∧ Polling x here t ∧
      t.index = (if (varValue sys.vars x).getLsbD 0 = true then here else here + 2) ∧
      t.engine.cyclesLeft = sys.engine.cyclesLeft - 1 ∧ t.vars = sys.vars := by
  obtain ⟨t, ht, hq, hleft, -⟩ := h.engine_step (p := []) (by simp)
  have hstep := System.step_of_op (hi ▸ h.branch) ht
  rw [hostAdvance_bnz] at hstep
  refine ⟨_, hstep, ⟨h.read, h.branch, hq⟩, ?_, hleft, rfl⟩
  simp only [and_one_ne_zero_iff, hi]

/-- The loop ends: each round takes cycles off the command in flight, until a poll finds none. -/
theorem Polling.ends (h : Polling x here sys) (hi : sys.index = here) :
    ∃ (k : Nat) (t : System), sys.run k = .next t ∧ t.index = here + 2 ∧ t.engine.inflight = none ∧
      (varValue t.vars x).getLsbD 0 = false := by
  induction hn : sys.engine.cyclesLeft using Nat.strong_induction_on generalizing sys with
  | _ n ih =>
    obtain ⟨u, hu, hpu, hiu, hleftu, hvar⟩ := h.step_read hi
    obtain ⟨t, ht, hpt, hit, hleftt, hvars⟩ := hpu.step_branch hiu
    have hround (k : Nat) : sys.run (k + 2) = t.run k := by rw [System.run_succ hu, System.run_succ ht]
    rw [hvar] at hit
    cases hb : u.engine.busy with
    | true =>
      have hu0 : u.engine.cyclesLeft ≠ 0 := fun h0 => busy_eq_true.mp hb (cyclesLeft_eq_zero.mp h0)
      obtain ⟨k, v, hrun, hv⟩ := ih _ (by omega) hpt (by simp [hit, hb]) rfl
      exact ⟨k + 2, v, by rw [hround, hrun], hv⟩
    | false =>
      have hu0 : u.engine.cyclesLeft = 0 := cyclesLeft_of_none (busy_eq_false.mp hb)
      have hidle : t.engine.inflight = none := cyclesLeft_eq_zero.mp (by omega)
      exact ⟨2, t, hround 0, by simp [hit, hb], hidle, by rw [hvars, hvar, hb]⟩

end

/-- Settles O60, by `Polling.ends`. -/
theorem waitIdleEndsWithNoCommandInFlight : Obligations.WaitIdleEndsWithNoCommandInFlight := by
  intro sys x here hread hbranch hi hq
  exact Polling.ends ⟨hread, hbranch, hq⟩ hi

end Sys2Proof.Machine
end

section
/-! PROOFS of 40_datapath.md, R130 to R141: the rotation is the library's and moves every bit, the rounds follow from one round, and
the pad word is read byte by byte. -/

namespace Sys2Proof.Machine

/-! ### The rotation and the round -/

/-- The spec's rotation is the library's (00_scope.md R13). -/
theorem rotl64_eq_rotateLeft (x : Word) {n : Nat} (hn : n < 64) : rotl64 x n = x.rotateLeft n := by
  rw [rotl64, BitVec.rotateLeft_def, Nat.mod_eq_of_lt hn]

/-- Settles O9: bit i stands in the part shifted left where i + n stays below 64, and in the part shifted right where it wraps. -/
theorem rotationMovesEveryBit : Obligations.RotationMovesEveryBit := by
  intro x n i _ hn hi
  rw [rotl64_eq_rotateLeft x hn, BitVec.getLsbD_rotateLeft_of_le hn]
  by_cases hwrap : i + n < 64
  · rw [Nat.mod_eq_of_lt hwrap]
    simp [hwrap]
  · have hmod : (i + n) % 64 = i + n - 64 := by omega
    simp [hmod, show i + n - 64 < n by omega, show 64 - n + (i + n - 64) = i by omega]

/-- A sum of words is the sum of their numbers modulo 2^64 (00_scope.md R13). -/
theorem ofNat_toNat_add_toNat (a b : Word) : BitVec.ofNat 64 (a.toNat + b.toNat) = a + b := by
  simp [BitVec.ofNat_add]

/-- R131 case (a): the all-zero state is a fixed point of one round. -/
@[simp] theorem sipRound_zero : sipRound SipState.zero = SipState.zero := by decide

/-- Settles O10: the sums are the model's additions, and each of its rotations is the library's. -/
theorem sipRoundFollowsItsStatements : Obligations.SipRoundFollowsItsStatements := by
  refine ⟨fun a b c d => ?_, sipRound_zero, by decide⟩
  simp only [sipRound, ofNat_toNat_add_toNat, rotl64_eq_rotateLeft, Nat.reduceLT]

/-! ### Rounds, Init, Absorb and Finalize -/

/-- `Rounds(V, 0) = V` (R133). -/
@[simp] theorem rounds_zero (v : SipState) : rounds v 0 = v := rfl

/-- `Rounds(V, n + 1) = SipRound(Rounds(V, n))` (R133). -/
@[simp] theorem rounds_succ (v : SipState) (n : Nat) : rounds v (n + 1) = sipRound (rounds v n) := rfl

/-- Settles O11, by induction on the number of rounds: one round keeps the zero state. -/
theorem zeroStateIsFixedByRounds : Obligations.ZeroStateIsFixedByRounds := by
  intro n
  induction n with
  | zero => rfl
  | succ n ih => rw [rounds_succ, ih, sipRound_zero]

/-- Settles O8: the first clause is the model's definition, and its three examples are evaluated. -/
theorem initXorsKeyWithConstants : Obligations.InitXorsKeyWithConstants :=
  ⟨fun _ _ => rfl, by decide, by decide, by decide⟩

/-- Absorbing zero is two rounds: both XORs vanish (R134). -/
theorem absorbBlock_zero (v : SipState) : absorbBlock v 0 = rounds v 2 := by
  simp [absorbBlock, Config.cRounds]

/-- Settles O12: two rounds unrolled; the zero word leaves only the rounds, and these keep the zero state. -/
theorem absorbIsTwoRoundsBetweenXors : Obligations.AbsorbIsTwoRoundsBetweenXors := by
  refine ⟨fun v m => rfl, absorbBlock_zero, ?_, by decide⟩
  rw [absorbBlock_zero, zeroStateIsFixedByRounds]

/-- Settles O14: the four rounds of `finalizeState`, unrolled, and the two tags evaluated. -/
theorem finalizeMixesFourRounds : Obligations.FinalizeMixesFourRounds :=
  ⟨fun _ => ⟨rfl, rfl⟩, by decide, by decide⟩

/-! ### The pad word -/

/-- A byte of a bitwise OR. -/
theorem byteOf_or (x y : Word) (j : Nat) : byteOf (x ||| y) j = byteOf x j ||| byteOf y j :=
  BitVec.extractLsb'_or

/-- Masking with `mask(8r)` keeps the bytes below r and clears the others. -/
theorem byteOf_and_mask (d : Word) {r : Nat} (hr : r ≤ 8) (j : Nat) :
    byteOf (d &&& mask (8 * r)) j = if j < r then byteOf d j else 0 := by
  apply BitVec.eq_of_getLsbD_eq
  intro i hi
  have hbyte : (8 * j + i < 8 * r) = (j < r) := propext (by omega)
  simp only [byteOf, BitVec.getLsbD_extractLsb', BitVec.getLsbD_and, getLsbD_mask _ (show 8 * r ≤ 64 by omega), hbyte]
  split <;> simp [*]

/-- A byte shifted left by 56 is byte 7, and the other bytes are zero. -/
theorem byteOf_setWidth_shiftLeft (b : Byte) {j : Nat} (hj : j < 8) :
    byteOf (b.setWidth 64 <<< 56) j = if j = 7 then b else 0 := by
  apply BitVec.eq_of_getLsbD_eq
  intro i hi
  simp only [byteOf, BitVec.getLsbD_extractLsb', BitVec.getLsbD_shiftLeft, BitVec.getLsbD_setWidth]
  by_cases h7 : j = 7
  · subst h7
    simp [hi, show i < 64 by omega, show 56 + i < 64 by omega]
  · simp [h7, show 8 * j + i < 56 by omega]

/-- The length byte is the length modulo 256. -/
theorem extractLsb'_zero_eight (l : Word) : l.extractLsb' 0 8 = BitVec.ofNat 8 (l.toNat % 256) := by
  apply BitVec.eq_of_toNat_eq
  simp

/-- Every byte of the pad word: DATA's below r, the length byte in byte 7, zero between (R136). -/
theorem byteOf_padWord (d : Word) (r : BitVec 3) (l : Word) {j : Nat} (hj : j < 8) :
    byteOf (padWord d r l) j =
      if j < r.toNat then byteOf d j else if j = 7 then BitVec.ofNat 8 (l.toNat % 256) else 0 := by
  have hr : r.toNat < 8 := r.isLt
  rw [padWord, byteOf_or, byteOf_and_mask d hr.le, byteOf_setWidth_shiftLeft _ hj, extractLsb'_zero_eight]
  by_cases hjr : j < r.toNat
  · simp [hjr, show j ≠ 7 by omega]
  · simp [hjr]

/-- With no remainder the pad word is the length byte alone (R136). -/
theorem padWord_zero (d l : Word) : padWord d 0 l = BitVec.ofNat 64 (l.toNat % 256 * 2 ^ 56) := by
  have hmask : mask (8 * (0 : BitVec 3).toNat) = 0 := by decide
  rw [padWord, hmask, extractLsb'_zero_eight]
  apply BitVec.eq_of_toNat_eq
  simp [Nat.shiftLeft_eq]

/-- Settles O13, by `byteOf_padWord` and `padWord_zero`. -/
theorem padWordByteByByte : Obligations.PadWordByteByByte :=
  ⟨fun d r l _ hj => byteOf_padWord d r l hj, padWord_zero, by decide⟩

/-! ### The whole function -/

/-- Settles O15: both vectors, evaluated. -/
theorem hashesTheReferenceVectors : Obligations.HashesTheReferenceVectors :=
  ⟨by decide, by decide⟩

end Sys2Proof.Machine
end

section
/-! PROOFS of 41_commands.md R161 to R180: the meaning of each command whose checks pass. -/

namespace Sys2Proof.Machine

/-- Settles O16: NOP has no checks and no effect (41_commands.md R163). -/
theorem nopCompletesWithoutEffect : Obligations.NopCompletesWithoutEffect := fun _ => rfl

/-- INIT with both key words loaded performs its effect (41_commands.md R168). -/
theorem exec_init_of_loaded {s : State} (h0 : s.k0ld = true) (h1 : s.k1ld = true) :
    exec .init s = .next (closeCommand (performInit s)) := by
  have hcheck : initCheck s = .execute := initCheck_execute.mpr ⟨h0, h1⟩
  simp only [exec, execInit, hcheck, completeWith]

/-- ABSORB in an open job without error and with room in LEN performs its effect (41_commands.md R171). -/
theorem exec_absorb_of_open {s : State} (he : s.err = false) (hp : s.phase = .absorbing) (hl : s.len.toNat ≤ 2 ^ 64 - 9) :
    exec .absorb s = .next (closeCommand (performAbsorb s)) := by
  have hcheck : absorbCheck s = .execute := absorbCheck_execute.mpr ⟨he, hp, hl⟩
  simp only [exec, execAbsorb, hcheck, completeWith]

/-- FINAL in an open job without error performs its effect (41_commands.md R175). -/
theorem exec_final_of_open {s : State} (r : BitVec 3) (he : s.err = false) (hp : s.phase = .absorbing) :
    exec (.final r) s = .next (closeCommand (performFinal r s)) := by
  have hcheck : jobCheck s = .execute := jobCheck_execute.mpr ⟨he, hp⟩
  simp only [exec, execFinal, hcheck, completeWith]

/-- Settles O17, by `exec_init_of_loaded`. -/
theorem initOpensAJob : Obligations.InitOpensAJob :=
  fun _ h0 h1 => exec_init_of_loaded h0 h1

/-- Settles O19, by `exec_absorb_of_open`. -/
theorem absorbTakesTheDataWord : Obligations.AbsorbTakesTheDataWord :=
  fun _ he hp hl => exec_absorb_of_open he hp hl

/-- Settles O21, by `exec_final_of_open`. -/
theorem finalTakesTheTagAndWipes : Obligations.FinalTakesTheTagAndWipes :=
  fun _ r he hp => exec_final_of_open r he hp

/-- Settles O23: ABORT has no checks, and its effect sets every item of R55 to its reset value. -/
theorem abortGivesTheResetState : Obligations.AbortGivesTheResetState := fun _ => rfl

end Sys2Proof.Machine
end

section
/-! PROOFS of 41_commands.md R160: nothing moves while a command is in flight, and it completes when its LAT has passed. -/

namespace Sys2Proof.Machine

/-! ### While cycles of LAT are left -/

/-- The cycle's inputs leave a request at the port waiting, and an empty port idle (70_reset_and_hazards.md R281). -/
theorem sampleInputs_answer (s : State) : (sampleInputs s).answer = restingAnswer (sampleInputs s).port := by
  unfold sampleInputs
  split <;> rfl

/-- One cycle of LAT passes. -/
theorem tick_of_flight {s : State} {w : Word} {n : Nat} (hf : s.inflight = some { word := w, left := n + 1 }) :
    tick s = { s with inflight := some { word := w, left := n } } := by
  rw [tick, hf]
  rfl

/-- A command with cycles left is not due. -/
theorem not_due {s : State} {w : Word} {n : Nat} (hf : s.inflight = some { word := w, left := n + 1 }) (w' : Word) :
    s.inflight ≠ some { word := w', left := 0 } := by
  simp [hf]

section
variable {s : State} {w : Word} {n : Nat}

/-- A STATUS read at the head of the port is performed, one cycle of LAT passed (42_register_access.md R212). -/
theorem step_statusRead_of_flight {rest : List Request} (hr : (sampleInputs s).rst = false)
    (hf : s.inflight = some { word := w, left := n + 1 }) (hp : (sampleInputs s).port = statusRead :: rest) :
    step s = .next
      { sampleInputs s with
        inflight := some { word := w, left := n }, port := rest, answer := .returned (leBytes (statusWord s)) } := by
  have hf' : (sampleInputs s).inflight = some { word := w, left := n + 1 } := by rw [sampleInputs_inflight, hf]
  have hstatus : statusWord (tick (sampleInputs s)) = statusWord s := by simp [statusWord]
  rw [step_of_request (nextEvent_request hr (not_due hf) hp)]
  show Host.Outcome.next (finishRequest (.returned (leBytes (statusWord (tick (sampleInputs s))))) (tick (sampleInputs s))) = _
  rw [hstatus, tick_of_flight hf', finishRequest, hp]
  rfl

/-- With no STATUS read at the head of the port, the port stays as the cycle's inputs leave it (20_memory.md R80). -/
theorem step_of_flight (hr : (sampleInputs s).rst = false) (hf : s.inflight = some { word := w, left := n + 1 })
    (hp : ∀ r rest, (sampleInputs s).port = r :: rest → r ≠ statusRead ∧ r.inWindow = true) :
    step s = .next { sampleInputs s with inflight := some { word := w, left := n } } := by
  have hf' : (sampleInputs s).inflight = some { word := w, left := n + 1 } := by rw [sampleInputs_inflight, hf]
  have hanswer := sampleInputs_answer s
  rw [← tick_of_flight hf']
  cases hport : (sampleInputs s).port with
  | nil =>
    have he : nextEvent s = .quiet := by simp [nextEvent, selectEvent, hr, hf, hport]
    rw [step_eq_serveEvent, he]
    rfl
  | cons r rest =>
    obtain ⟨hs, hw⟩ := hp r rest hport
    have hstalled : stallRequest (tick (sampleInputs s)) = tick (sampleInputs s) := by
      rw [hport, restingAnswer] at hanswer
      rw [stallRequest, ← hanswer]
      rfl
    rw [step_of_request (nextEvent_request hr (not_due hf) hport),
      serveRequest_stalls hw hs (by simp [State.busy, hf]), hstalled]

end

/-- Settles O42, by `step_statusRead_of_flight` and `step_of_flight`. -/
theorem nothingMovesWhileACommandIsInFlight : Obligations.NothingMovesWhileACommandIsInFlight := by
  intro s w n hr hf
  refine ⟨?_, step_of_flight hr hf⟩
  rintro _ rest hp rfl
  exact step_statusRead_of_flight hr hf hp

/-! ### When its LAT has passed -/

/-- The completion of a word that decodes to a command is the command (41_commands.md R161). -/
theorem completeWord_instr {w : Word} {i : Instr} (h : decode (.command w) = .instr i) (s : State) :
    completeWord w s = exec i s := by
  simp only [completeWord, h]

/-- The completion that is due, with a STATUS read at the head of the port, which is performed after it (log entry 3). -/
theorem step_of_complete_statusRead {s v : State} {w : Word} {rest : List Request} (he : nextEvent s = .complete w)
    (hp : (sampleInputs s).port = statusRead :: rest) (hv : completeWord w (sampleInputs s) = .next v) :
    step s = .next { v with port := rest, answer := .returned (leBytes (statusWord v)) } := by
  have hport : v.port = statusRead :: rest := (completed_of_completeWord hv).port_eq.trans hp
  rw [step_eq_serveEvent, he]
  simp only [serveEvent, hv, readStatusAfter, hport, List.head?_cons, if_true, performStatusRead, finishRequest,
    List.tail_cons, readValue]

/-- Settles O36: the event is the completion, which is exec of what the word decodes to. -/
theorem stepRunsTheCommandInFlight : Obligations.StepRunsTheCommandInFlight := by
  intro s w i hr hf hd
  have he : nextEvent s = .complete w := nextEvent_complete hr hf
  obtain ⟨v, hv⟩ := completeWord_next w (sampleInputs s)
  have hexec : exec i (sampleInputs s) = .next v := (completeWord_instr hd _).symm.trans hv
  refine ⟨fun hs => ?_, fun rest hp => ⟨v, hexec, step_of_complete_statusRead he hp hv⟩⟩
  rw [step_of_complete he hs hv, hexec]

/-- With no reset to come and the platform's routing, the word w is in flight, n cycles before its completion. -/
structure InFlight (w : Word) (n : Nat) (s : State) : Prop where
  noReset : NoReset s
  routed : RoutedByPlatform s
  flight : s.inflight = some { word := w, left := n }

section
variable {w : Word} {n : Nat} {s : State}

/-- While cycles of LAT are left, a step leaves the command in flight, one cycle less, whatever stands at the port. -/
theorem InFlight.step_counts (h : InFlight w (n + 1) s) : ∃ t, step s = .next t ∧ InFlight w n t := by
  obtain ⟨hr, -⟩ := noReset_sampleInputs h.noReset
  obtain ⟨hrouted, -⟩ := routedByPlatform_sampleInputs h.routed
  obtain ⟨t, hstep, hflight⟩ : ∃ t, step s = .next t ∧ t.inflight = some { word := w, left := n } := by
    by_cases hs : (sampleInputs s).port.head? = some statusRead
    · obtain ⟨rest, hp⟩ := List.head?_eq_some_iff.mp hs
      exact ⟨_, step_statusRead_of_flight hr h.flight hp, rfl⟩
    · refine ⟨_, step_of_flight hr h.flight fun r rest hp => ⟨?_, hrouted r (by simp [hp])⟩, rfl⟩
      rintro rfl
      simp [hp] at hs
  exact ⟨t, hstep, noReset_of_step h.noReset hstep, routedByPlatform_of_step h.routed hstep, hflight⟩

/-- The cycles of LAT pass one by one. -/
theorem InFlight.through_latency {k : Nat} (h : InFlight w n s) (hk : k ≤ n) : ∃ t, run k s = .next t ∧ InFlight w (n - k) t := by
  induction k with
  | zero => exact ⟨s, run_zero s, h⟩
  | succ k ih =>
    obtain ⟨u, hu, hflying⟩ := ih (by omega)
    rw [show n - k = n - (k + 1) + 1 by omega] at hflying
    obtain ⟨t, ht, hleft⟩ := hflying.step_counts
    exact ⟨t, run_add_one hu ht, hleft⟩

/-- When no cycle is left, the step completes the command. -/
theorem InFlight.step_completes (h : InFlight w 0 s) : ∃ t, step s = .next t ∧ t.inflight = none := by
  obtain ⟨t, ht⟩ := step_next_of_routed h.routed
  refine ⟨t, ht, ?_⟩
  rw [step_eq_serveEvent, nextEvent_complete (noReset_sampleInputs h.noReset).1 h.flight] at ht
  obtain ⟨u, hu, rfl | ⟨a, rfl⟩⟩ := serveEvent_complete_cases ht
  · exact (completed_of_completeWord hu).inflight_eq
  · exact (completed_of_completeWord hu).inflight_eq

end

/-- Settles O55: n steps by `InFlight.through_latency`, and the completion is the next one. -/
theorem aCommandCompletesAfterItsLatency : Obligations.ACommandCompletesAfterItsLatency := by
  intro s w n hn hrouted hf
  have h : InFlight w n s := ⟨hn, hrouted, hf⟩
  refine ⟨fun k hk => ?_, ?_⟩
  · obtain ⟨t, ht, hflying⟩ := h.through_latency hk
    exact ⟨t, ht, hflying.flight⟩
  · obtain ⟨u, hu, hdue⟩ := h.through_latency le_rfl
    rw [Nat.sub_self] at hdue
    obtain ⟨t, ht, hidle⟩ := hdue.step_completes
    exact ⟨t, run_add_one hu ht, hidle⟩

end Sys2Proof.Machine
end

section
/-! PROOFS of 41_commands.md R182: the host sequence of a job, transaction by transaction, computes SipHash24. -/

namespace Sys2Proof.Machine

/-! ### States a run passes through -/

/-- Some number of steps from s gives t. -/
def Reaches (s t : State) : Prop :=
  ∃ k, run k s = .next t

theorem reaches_of_step {s t : State} (h : step s = .next t) : Reaches s t :=
  ⟨1, run_succ h⟩

theorem Reaches.trans {s t u : State} (hst : Reaches s t) (htu : Reaches t u) : Reaches s u := by
  obtain ⟨j, hj⟩ := hst
  obtain ⟨k, hk⟩ := htu
  exact ⟨j + k, by rw [run_add hj, hk]⟩

/-! ### The transactions of a host that only writes registers -/

/-- The write of v to a register, as the port receives it. -/
abbrev writeOf (reg : Reg) (v : Word) : Request :=
  registerRequest reg (.write v)

/-- The request is an aligned 8-byte write of a register. -/
def RegisterWrite (r : Request) : Prop :=
  ∃ reg v, r = writeOf reg v

theorem registerWrite_writeOf (reg : Reg) (v : Word) : RegisterWrite (writeOf reg v) :=
  ⟨reg, v, rfl⟩

theorem RegisterWrite.ne_statusRead {r : Request} (h : RegisterWrite r) : r ≠ statusRead := by
  obtain ⟨reg, v, rfl⟩ := h
  simp [registerRequest, statusRead]

theorem RegisterWrite.inWindow {r : Request} (h : RegisterWrite r) : r.inWindow = true := by
  obtain ⟨reg, v, rfl⟩ := h
  exact registerRequest_inWindow reg _

/-- The environment brings nothing, and the port holds the requests p, all of them register writes: the host has exclusive use of
the engine (41_commands.md R182). -/
structure Hosted (p : List Request) (s : State) : Prop where
  quiet : QuietInputs s
  port : s.port = p
  writes : ∀ r ∈ p, RegisterWrite r

theorem QuietInputs.noReset {s : State} (h : QuietInputs s) : NoReset s := by
  obtain ⟨hrst, hinputs⟩ := h
  exact ⟨hrst, fun c hc => by rw [hinputs c hc]⟩

theorem Hosted.after_inputs {p : List Request} {s : State} (h : Hosted p s) : Hosted p (sampleInputs s) := by
  obtain ⟨hquiet, hport⟩ := quietInputs_sampleInputs h.quiet
  exact ⟨hquiet, hport.trans h.port, h.writes⟩

/-- A step keeps the environment quiet; what it leaves at the port are the host's writes still. -/
theorem Hosted.of_step {p q : List Request} {s t : State} (h : Hosted p s) (hstep : step s = .next t) (hport : t.port = q)
    (hq : q ⊆ p) : Hosted q t :=
  ⟨quietInputs_of_step h.quiet hstep, hport, fun r hr => h.writes r (hq hr)⟩

/-- The request is the encoding of the register's write. -/
theorem decodeRequest_writeOf (reg : Reg) (v : Word) : decodeRequest (writeOf reg v) = .instr (writeInstr v reg) :=
  (congrArg decode (encode_writeInstr v reg)).symm.trans (decode_encode (writeInstr v reg))

/-- With no command in flight, the write at the head of the port is performed, with its effect on the state the cycle's
inputs give. -/
theorem Hosted.step_writes {reg : Reg} {v : Word} {rest : List Request} {s : State} {effect : State → State}
    (h : Hosted (writeOf reg v :: rest) s) (hidle : s.inflight = none)
    (heffect : ∀ u, exec (writeInstr v reg) u = performWrite effect u) :
    step s = .next (finishRequest .written (effect (sampleInputs s))) := by
  rw [step_serves_head h.quiet.noReset hidle h.port, serveRequest_instr (decodeRequest_writeOf reg v), heffect]
  exact performRequest_performs effect .written (by simp [State.busy, hidle])

theorem Hosted.registerWrite_head {p rest : List Request} {r : Request} {s : State} (h : Hosted p s) (hp : s.port = r :: rest) :
    RegisterWrite r :=
  h.writes r (by simp [← h.port, hp])

/-- The host's writes p stand at the port, and no command is in flight. -/
structure Ready (p : List Request) (s : State) : Prop where
  hosted : Hosted p s
  idle : s.inflight = none

section
variable {rest : List Request} {s : State}

/-- A write that issues no command leaves the port in one step, with its effect on the items. -/
theorem Ready.writes {reg : Reg} {v : Word} {effect : State → State} (h : Ready (writeOf reg v :: rest) s)
    (heffect : ∀ u, exec (writeInstr v reg) u = performWrite effect u) (hport : ∀ u, (effect u).port = u.port)
    (hflight : ∀ u, (effect u).inflight = u.inflight) (hitems : SameItems (effect s) (effect (sampleInputs s))) :
    ∃ t, Reaches s t ∧ Ready rest t ∧ SameItems (effect s) t := by
  have hstep := h.hosted.step_writes h.idle heffect
  have hrest : (finishRequest .written (effect (sampleInputs s))).port = rest := by
    rw [finishRequest_port, hport, h.hosted.after_inputs.port, List.tail_cons]
  have hidle : (finishRequest .written (effect (sampleInputs s))).inflight = none := by
    rw [finishRequest_inflight, hflight, sampleInputs_inflight, h.idle]
  exact ⟨_, reaches_of_step hstep, ⟨h.hosted.of_step hstep hrest (List.subset_cons_self _ _), hidle⟩,
    hitems.trans (sameItems_finishRequest .written _)⟩

/-- KEY0 is written (42_register_access.md R200). -/
theorem Ready.writes_key0 {v : Word} (h : Ready (writeOf .key0 v :: rest) s) :
    ∃ t, Reaches s t ∧ Ready rest t ∧ SameItems { s with key0 := v, k0ld := true } t :=
  h.writes (effect := fun u => { u with key0 := v, k0ld := true }) (fun _ => rfl) (fun _ => rfl) (fun _ => rfl)
    (by constructor <;> simp)

/-- KEY1 is written (42_register_access.md R202). -/
theorem Ready.writes_key1 {v : Word} (h : Ready (writeOf .key1 v :: rest) s) :
    ∃ t, Reaches s t ∧ Ready rest t ∧ SameItems { s with key1 := v, k1ld := true } t :=
  h.writes (effect := fun u => { u with key1 := v, k1ld := true }) (fun _ => rfl) (fun _ => rfl) (fun _ => rfl)
    (by constructor <;> simp)

/-- DATA is written (42_register_access.md R204). -/
theorem Ready.writes_data {v : Word} (h : Ready (writeOf .data v :: rest) s) :
    ∃ t, Reaches s t ∧ Ready rest t ∧ SameItems { s with data := v } t :=
  h.writes (effect := fun u => { u with data := v }) (fun _ => rfl) (fun _ => rfl) (fun _ => rfl)
    (by constructor <;> simp)

/-- While cycles of LAT are left, a step leaves the host's writes at the port and changes no item. -/
theorem Hosted.step_counts {p : List Request} {w : Word} {n : Nat} (h : Hosted p s)
    (hf : s.inflight = some { word := w, left := n + 1 }) :
    ∃ t, step s = .next t ∧ Hosted p t ∧ t.inflight = some { word := w, left := n } ∧ SameItems s t := by
  have hsampled := h.after_inputs
  have hstep := step_of_flight hsampled.quiet.1 hf fun r rest hp =>
    ⟨(hsampled.registerWrite_head hp).ne_statusRead, (hsampled.registerWrite_head hp).inWindow⟩
  exact ⟨_, hstep, h.of_step hstep hsampled.port (List.Subset.refl p), rfl, by constructor <;> simp⟩

/-- When no cycle is left, the step is the completion. -/
theorem Hosted.step_completes {p : List Request} {w : Word} (h : Hosted p s)
    (hf : s.inflight = some { word := w, left := 0 }) :
    ∃ t, step s = .next t ∧ completeWord w (sampleInputs s) = .next t ∧ Ready p t := by
  have hsampled := h.after_inputs
  obtain ⟨t, ht⟩ := completeWord_next w (sampleInputs s)
  have hc := completed_of_completeWord ht
  have hhead : (sampleInputs s).port.head? ≠ some statusRead := by
    intro hs
    obtain ⟨rest, hp⟩ := List.head?_eq_some_iff.mp hs
    exact (hsampled.registerWrite_head hp).ne_statusRead rfl
  have hstep := step_of_complete (nextEvent_complete hsampled.quiet.1 hf) hhead ht
  exact ⟨t, hstep, ht, h.of_step hstep (hc.port_eq.trans hsampled.port) (List.Subset.refl p), hc.inflight_eq⟩

/-- A command in flight completes, whatever its LAT, in a state with the items it was issued in (41_commands.md R160). -/
theorem Hosted.completes {p : List Request} {w : Word} {n : Nat} (h : Hosted p s)
    (hf : s.inflight = some { word := w, left := n }) :
    ∃ u t, Reaches s t ∧ SameItems s u ∧ completeWord w u = .next t ∧ Ready p t := by
  induction n generalizing s with
  | zero =>
    obtain ⟨t, hstep, ht, hready⟩ := h.step_completes hf
    exact ⟨sampleInputs s, t, reaches_of_step hstep, by constructor <;> simp, ht, hready⟩
  | succ n ih =>
    obtain ⟨s', hstep, hhosted, hf', hsame⟩ := h.step_counts hf
    obtain ⟨u, t, hreach, hsame', ht, hready⟩ := ih hhosted hf'
    exact ⟨u, t, (reaches_of_step hstep).trans hreach, hsame.trans hsame', ht, hready⟩

/-- The word written to CMD is issued and completes (42_register_access.md R206, 41_commands.md R160). -/
theorem Ready.issues {w : Word} (h : Ready (writeOf .cmd w :: rest) s) :
    ∃ u t, Reaches s t ∧ SameItems s u ∧ completeWord w u = .next t ∧ Ready rest t := by
  have hstep := h.hosted.step_writes h.idle (effect := issueCommand w) fun _ => rfl
  have hrest : (finishRequest .written (issueCommand w (sampleInputs s))).port = rest := by
    rw [finishRequest_port, issueCommand_port, h.hosted.after_inputs.port, List.tail_cons]
  have hitems : SameItems s (finishRequest .written (issueCommand w (sampleInputs s))) := by constructor <;> simp
  obtain ⟨u, t, hreach, hsame, ht, hready⟩ :=
    (h.hosted.of_step hstep hrest (List.subset_cons_self _ _)).completes rfl
  exact ⟨u, t, (reaches_of_step hstep).trans hreach, hitems.trans hsame, ht, hready⟩

/-- A command written to CMD is executed, in a state with the items of its write. -/
theorem Ready.executes {w : Word} {i : Instr} {perform : State → State} (h : Ready (writeOf .cmd w :: rest) s)
    (hd : decode (.command w) = .instr i)
    (hexec : ∀ u, SameItems s u → exec i u = .next (closeCommand (perform u))) :
    ∃ u, SameItems s u ∧ Reaches s (closeCommand (perform u)) ∧ Ready rest (closeCommand (perform u)) := by
  obtain ⟨u, t, hreach, hsame, ht, hready⟩ := h.issues
  rw [completeWord_instr hd, hexec u hsame] at ht
  cases ht
  exact ⟨u, hsame, hreach, hready⟩

end

/-! ### A job -/

/-- A job is open without error, with V = v and LEN = n, and the host's writes p stand at the port. -/
structure OpenJob (v : SipState) (n : Nat) (p : List Request) (s : State) : Prop where
  ready : Ready p s
  phase : s.phase = .absorbing
  err : s.err = false
  v : s.v = v
  len : s.len.toNat = n

section
variable {v : SipState} {n : Nat} {rest : List Request} {s : State}

/-- The two key writes and INIT open a job (41_commands.md R182). -/
theorem Ready.opensJob {k0 k1 : Word}
    (h : Ready (writeOf .key0 k0 :: writeOf .key1 k1 :: writeOf .cmd 0x1 :: rest) s) :
    ∃ t, Reaches s t ∧ OpenJob (initState k0 k1) 0 rest t := by
  obtain ⟨a, hsa, ha, hkey0⟩ := h.writes_key0
  obtain ⟨b, hab, hb, hkey1⟩ := ha.writes_key1
  have hk0ld : b.k0ld = true := hkey1.k0ld.trans hkey0.k0ld
  have hk1ld : b.k1ld = true := hkey1.k1ld
  obtain ⟨u, hu, hbt, ht⟩ := hb.executes (perform := performInit) (decode_encode .init) fun u hu =>
    exec_init_of_loaded (hu.k0ld.trans hk0ld) (hu.k1ld.trans hk1ld)
  have hv : initState u.key0 u.key1 = initState k0 k1 := by rw [hu.key0, hu.key1, hkey1.key0, hkey1.key1, hkey0.key0]
  exact ⟨_, (hsa.trans hab).trans hbt, ht, rfl, rfl, hv, rfl⟩

/-- `BLOCK m`: DATA is written and absorbed (41_commands.md R182, 30_encoding.md R112). -/
theorem OpenJob.absorbs {m : Word} (h : OpenJob v n (writeOf .data m :: writeOf .cmd 0x2 :: rest) s)
    (hn : n ≤ 2 ^ 64 - 9) : ∃ t, Reaches s t ∧ OpenJob (absorbBlock v m) (n + 8) rest t := by
  obtain ⟨a, hsa, ha, hdata⟩ := h.ready.writes_data
  have herr : a.err = false := hdata.err.trans h.err
  have hphase : a.phase = .absorbing := hdata.phase.trans h.phase
  have hlen : a.len.toNat = n := by rw [hdata.len, h.len]
  obtain ⟨u, hu, hat, ht⟩ := ha.executes (perform := performAbsorb) (decode_encode .absorb) fun u hu =>
    exec_absorb_of_open (hu.err.trans herr) (hu.phase.trans hphase) (by rwa [hu.len, hlen])
  have hv : absorbBlock u.v u.data = absorbBlock v m := by rw [hu.v, hu.data, hdata.v, hdata.data, h.v]
  have hlen8 : (u.len + 8).toNat = n + 8 := by
    rw [hu.len, toNat_len_add_eight (by rwa [hlen]), hlen]
  exact ⟨_, hsa.trans hat, ht, hu.phase.trans hphase, hu.err.trans herr, hv, hlen8⟩

/-- The `BLOCK` transactions of the chunks ms. -/
def blockRequests (ms : List Word) : List Request :=
  ms.flatMap fun m => [writeOf .data m, writeOf .cmd 0x2]

/-- The chunks are absorbed in their order (40_datapath.md R135, R141). -/
theorem OpenJob.absorbs_all {ms : List Word} (h : OpenJob v n (blockRequests ms ++ rest) s)
    (hn : n + 8 * ms.length ≤ 2 ^ 64 - 1) :
    ∃ t, Reaches s t ∧ OpenJob (ms.foldl absorbBlock v) (n + 8 * ms.length) rest t := by
  induction ms generalizing v n s with
  | nil => exact ⟨s, ⟨0, run_zero s⟩, h⟩
  | cons m ms ih =>
    rw [List.length_cons] at hn ⊢
    obtain ⟨a, hsa, ha⟩ := h.absorbs (by omega)
    obtain ⟨t, hat, ht⟩ := ih ha (by omega)
    rw [show n + 8 + 8 * ms.length = n + 8 * (ms.length + 1) by ring] at ht
    exact ⟨t, hsa.trans hat, ht⟩

/-- The last DATA write and FINAL r close the job with its tag (41_commands.md R175, R182). -/
theorem OpenJob.finishes {d : Word} {r : BitVec 3}
    (h : OpenJob v n [writeOf .data d, writeOf .cmd (commandWord 0x03 r)] s) (hn : n ≤ 2 ^ 64 - 8) :
    ∃ t, Reaches s t ∧ Ready [] t ∧ t.phase = .done ∧ t.err = false ∧ t.len.toNat = n + r.toNat ∧
      t.tag = finalizeTag (absorbBlock v (padWord d r (BitVec.ofNat 64 (n + r.toNat)))) := by
  obtain ⟨a, hsa, ha, hdata⟩ := h.ready.writes_data
  have herr : a.err = false := hdata.err.trans h.err
  have hphase : a.phase = .absorbing := hdata.phase.trans h.phase
  obtain ⟨u, hu, hat, ht⟩ := ha.executes (perform := performFinal r) (decode_encode (.final r)) fun u hu =>
    exec_final_of_open r (hu.err.trans herr) (hu.phase.trans hphase)
  have hlen : (u.len + remOperand r).toNat = n + r.toNat := by
    rw [hu.len, hdata.len, toNat_len_add_remOperand r (by rwa [h.len]), h.len]
  have htotal : u.len + remOperand r = BitVec.ofNat 64 (n + r.toNat) := by
    rw [← hlen, BitVec.ofNat_toNat, BitVec.setWidth_eq]
  refine ⟨_, hsa.trans hat, ht, rfl, hu.err.trans herr, hlen, ?_⟩
  rw [closeCommand_tag, performFinal_tag, htotal, hu.v, hu.data, hdata.v, hdata.data, h.v]

end

/-! ### The message of a job -/

/-- The bytes of DATA from r on do not reach the pad word (40_datapath.md R136). -/
theorem padWord_congr {d d' : Word} {r : BitVec 3} (l : Word) (h : ∀ j < r.toNat, byteOf d j = byteOf d' j) :
    padWord d r l = padWord d' r l := by
  apply eq_of_byteOf_eq
  intro j hj
  rw [byteOf_padWord d r l hj, byteOf_padWord d' r l hj]
  split
  · exact h j ‹_›
  · rfl

theorem length_fullChunks (msg : List Byte) : (fullChunks msg).length = msg.length / 8 := by
  obtain ⟨hsum, hlt, -⟩ := message_split msg
  omega

theorem toNat_remainderCount (msg : List Byte) : (remainderCount msg).toNat = msg.length % 8 := by
  simp [remainderCount]

/-- Byte j of the remainder stands in the message after its full chunks. -/
theorem getElem?_remainderBytes (msg : List Byte) (j : Nat) :
    (remainderBytes msg)[j]? = msg[8 * (msg.length / 8) + j]? := by
  obtain ⟨-, -, hdrop⟩ := message_split msg
  rw [hdrop, length_fullChunks, List.getElem?_drop]

/-- A DATA word with the remainder bytes in it pads as the remainder does, whatever its other bytes (40_datapath.md R136,
R141). -/
theorem padWord_eq_padWord_remainder {msg : List Byte} {d : Word} (l : Word)
    (hd : ∀ j < msg.length % 8, some (byteOf d j) = msg[8 * (msg.length / 8) + j]?) :
    padWord d (remainderCount msg) l = padWord (le64 (remainderBytes msg)) (remainderCount msg) l := by
  apply padWord_congr
  intro j hj
  rw [toNat_remainderCount] at hj
  rw [byteOf_le64 _ j (by omega), getElem?_remainderBytes, ← hd j hj, Option.getD_some]

/-! ### The job's transactions -/

/-- FINAL's command word, as R182 writes it. -/
theorem or_remOperand_shiftLeft (r : BitVec 3) : 0x3 ||| (remOperand r <<< 8) = commandWord 0x03 r := by
  revert r
  decide

/-- The sequence of R182 as key writes and INIT, the blocks, and the last DATA write with FINAL. -/
theorem jobRequests_eq (key msg : List Byte) (d : Word) :
    jobRequests key msg d =
      writeOf .key0 (le64 (key.take 8)) :: writeOf .key1 (le64 (key.drop 8)) :: writeOf .cmd 0x1 ::
        (blockRequests (fullChunks msg) ++
          [writeOf .data d, writeOf .cmd (commandWord 0x03 (remainderCount msg))]) := by
  rw [← or_remOperand_shiftLeft]
  rfl

theorem registerWrite_of_mem_blockRequests {ms : List Word} : ∀ r ∈ blockRequests ms, RegisterWrite r := by
  intro r hr
  obtain ⟨m, -, hr⟩ := List.mem_flatMap.mp hr
  obtain rfl | rfl := List.mem_pair.mp hr <;> exact registerWrite_writeOf _ _

theorem registerWrite_of_mem_jobRequests {key msg : List Byte} {d : Word} :
    ∀ r ∈ jobRequests key msg d, RegisterWrite r := by
  simp only [jobRequests_eq, List.forall_mem_cons, List.forall_mem_append, registerWrite_writeOf, true_and]
  exact ⟨registerWrite_of_mem_blockRequests, List.forall_mem_nil _⟩

/-- Settles O58: the job opens, absorbs the chunks by induction on them, and its tag is the hash's. -/
theorem aJobComputesSipHash24 : Obligations.AJobComputesSipHash24 := by
  intro s key msg d _ hmsg hd hquiet hidle hport
  have hready : Ready (jobRequests key msg d) s := ⟨⟨hquiet, hport, registerWrite_of_mem_jobRequests⟩, hidle⟩
  rw [jobRequests_eq] at hready
  have hlen : 0 + 8 * (fullChunks msg).length + (remainderCount msg).toNat = msg.length := by
    rw [length_fullChunks, toNat_remainderCount]
    omega
  obtain ⟨a, hsa, ha⟩ := hready.opensJob
  obtain ⟨b, hab, hb⟩ := ha.absorbs_all (by omega)
  obtain ⟨t, hbt, ht, hphase, herr, htlen, htag⟩ := hb.finishes (by omega)
  obtain ⟨k, hk⟩ := (hsa.trans hab).trans hbt
  rw [hlen] at htlen htag
  rw [padWord_eq_padWord_remainder _ hd] at htag
  exact ⟨k, t, hk, ht.hosted.port, ht.idle, hphase, herr, htlen, congrArg leBytes htag⟩

end Sys2Proof.Machine
end

section
/-! PROOFS of 42_register_access.md R200 to R218: what each register access does, and the number STATUS reads. -/

namespace Sys2Proof.Machine

/-! ### The number of STATUS -/

/-- The word holds the number n, of so many bits. -/
def HoldsNumber (w : Word) (bits n : Nat) : Prop :=
  w.toNat = n ∧ n < 2 ^ bits

theorem holdsNumber_ofBool (b : Bool) : HoldsNumber ((BitVec.ofBool b).setWidth 64) 1 b.toNat := by
  cases b <;> exact ⟨rfl, by decide⟩

/-- A field placed above the bits of a number adds its own number at its place. -/
theorem HoldsNumber.or_field {w : Word} {k n bits : Nat} (h : HoldsNumber w k n) (x : BitVec bits) (hbits : bits + k ≤ 64) :
    HoldsNumber (x.setWidth 64 <<< k ||| w) (bits + k) (x.toNat * 2 ^ k + n) := by
  obtain ⟨hw, hn⟩ := h
  have hsum : x.toNat * 2 ^ k + n < 2 ^ (bits + k) := by
    calc x.toNat * 2 ^ k + n < (x.toNat + 1) * 2 ^ k := by rw [Nat.succ_mul]; omega
      _ ≤ 2 ^ bits * 2 ^ k := Nat.mul_le_mul_right _ x.isLt
      _ = 2 ^ (bits + k) := (Nat.pow_add 2 bits k).symm
  have hfits : 2 ^ (bits + k) ≤ 2 ^ 64 := Nat.pow_le_pow_right (by decide) hbits
  have hx : x.toNat < 2 ^ 64 := x.isLt.trans_le (Nat.pow_le_pow_right (by decide) (by omega))
  have hfield : (x.setWidth 64 <<< k).toNat = x.toNat <<< k := by
    rw [BitVec.toNat_shiftLeft, BitVec.toNat_setWidth, Nat.mod_eq_of_lt hx, Nat.shiftLeft_eq]
    exact Nat.mod_eq_of_lt (by omega)
  refine ⟨?_, hsum⟩
  rw [BitVec.toNat_or, hfield, hw, ← Nat.shiftLeft_add_eq_or_of_lt hn, Nat.shiftLeft_eq]

/-- The fields of STATUS lie side by side from bit 0 on, so its number is their sum (10_state.md R49). -/
theorem toNat_statusWord (s : State) :
    (statusWord s).toNat = s.k1ld.toNat * 512 + s.k0ld.toNat * 256 + s.errcode.toNat * 16 + s.err.toNat * 8
      + s.phase.code.toNat * 2 + s.busy.toNat := by
  have hphase := (holdsNumber_ofBool s.busy).or_field s.phase.code (by decide)
  have herr := hphase.or_field (BitVec.ofBool s.err) (by decide)
  have herrcode := herr.or_field s.errcode (by decide)
  have hk0ld := herrcode.or_field (BitVec.ofBool s.k0ld) (by decide)
  obtain ⟨hsum, -⟩ := hk0ld.or_field (BitVec.ofBool s.k1ld) (by decide)
  simp only [BitVec.toNat_ofBool, ← BitVec.or_assoc] at hsum
  exact hsum.trans (by omega)

/-- Settles O29: STATUS is outside the stall rule, and its number is the sum of `toNat_statusWord` in each of the three phases. -/
theorem statusReadsItsFieldsAndNeverStalls : Obligations.StatusReadsItsFieldsAndNeverStalls := by
  intro s
  refine ⟨statusWord s, ?_, rfl⟩
  rw [toNat_statusWord]
  cases s.phase <;> rfl

/-! ### Writes with no command in flight -/

/-- With no command in flight a write has its effect and leaves the port. -/
theorem exec_write_of_idle {i : Instr} {effect : State → State} {s : State} (hi : exec i s = performWrite effect s)
    (hs : s.inflight = none) : exec i s = .next (finishRequest .written (effect s)) := by
  rw [hi, performWrite, performRequest_performs _ _ (busy_eq_false.mpr hs)]

/-- Settles O25: each write with its effect, by `exec_write_of_idle`. -/
theorem keyAndDataWritesTakeTheWord : Obligations.KeyAndDataWritesTakeTheWord := by
  intro s v hs
  exact ⟨exec_write_of_idle (effect := fun s => { s with key0 := v, k0ld := true }) rfl hs,
    exec_write_of_idle (effect := fun s => { s with key1 := v, k1ld := true }) rfl hs,
    exec_write_of_idle (effect := fun s => { s with data := v }) rfl hs⟩

theorem nextLatency_of_cons {s : State} {n : Nat} {l : List Nat} (h : s.latencies = n :: l) : nextLatency s = n := by
  rw [nextLatency, h]

/-- Settles O26: the LAT is `nextLatency`, the model's choice (log entry 2). -/
theorem commandWriteIssuesTheWord : Obligations.CommandWriteIssuesTheWord := by
  intro s w hs
  exact ⟨nextLatency s, exec_write_of_idle (effect := issueCommand w) rfl hs, fun _ _ => nextLatency_of_cons⟩

/-- A write whose effect is BAD_ACCESS changes ERR and ERRCODE only, and keeps the first error (60_exceptions.md R243). -/
theorem exec_badAccess_of_idle {i : Instr} {s : State} (hi : exec i s = performWrite (recordError .badAccess) s)
    (hs : s.inflight = none) :
    exec i s = .next
      { s with err := true, errcode := if s.err then s.errcode else 5, port := s.port.tail, answer := .written } := by
  rw [exec_write_of_idle hi hs, recordError_eq]
  rfl

/-- Settles O27: each of the four writes records BAD_ACCESS, by `exec_badAccess_of_idle`. -/
theorem writesToReadOnlyRegistersRecordBadAccess : Obligations.WritesToReadOnlyRegistersRecordBadAccess := by
  intro s v hs
  simp only [List.forall_mem_cons]
  exact ⟨exec_badAccess_of_idle rfl hs, exec_badAccess_of_idle rfl hs, exec_badAccess_of_idle rfl hs,
    exec_badAccess_of_idle rfl hs, List.forall_mem_nil _⟩

/-! ### Reads with no command in flight -/

/-- With no command in flight a read returns the register's bytes and has no effect (20_memory.md R72, R77). -/
theorem exec_read_of_idle {reg : Reg} {s : State} (hreg : reg ≠ .status) (hs : s.inflight = none) :
    exec (readInstr reg) s = .next { s with port := s.port.tail, answer := .returned (leBytes (readValue s reg)) } := by
  rw [exec_readInstr hreg, performRead, performRequest_performs _ _ (busy_eq_false.mpr hs)]
  rfl

theorem leBytes_zero : leBytes 0 = [0, 0, 0, 0, 0, 0, 0, 0] := by decide

/-- The constant of ID from its least significant byte on (10_state.md R47). -/
theorem leBytes_idWord : leBytes idWord = [0x02, 0x04, 0x01, 0x00, 0x48, 0x50, 0x49, 0x53] := by decide

/-- Settles O28: the value of each of the four registers is 0. -/
theorem writeOnlyRegistersReadZero : Obligations.WriteOnlyRegistersReadZero := by
  intro s hs
  simp only [← leBytes_zero, List.forall_mem_cons]
  exact ⟨exec_read_of_idle (reg := .key0) nofun hs, exec_read_of_idle (reg := .key1) nofun hs,
    exec_read_of_idle (reg := .data) nofun hs, exec_read_of_idle (reg := .cmd) nofun hs, List.forall_mem_nil _⟩

/-- Settles O30: each read by `exec_read_of_idle`, and the bytes of the constant. -/
theorem readOnlyRegistersReadTheirValue : Obligations.ReadOnlyRegistersReadTheirValue := by
  intro s hs
  rw [← leBytes_idWord]
  exact ⟨exec_read_of_idle (reg := .tag) nofun hs, exec_read_of_idle (reg := .msglen) nofun hs,
    exec_read_of_idle (reg := .id) nofun hs⟩

end Sys2Proof.Machine
end

section
/-! PROOFS of 60_exceptions.md R241 to R243: the checks at a command's completion, in their order, and what a failing one records. -/

namespace Sys2Proof.Machine

/-! ### What a failing command leaves -/

/-- A command that fails a check records its error, the first one being kept, and changes nothing else (R241, R243). -/
theorem closeCommand_recordError (code : ErrorCode) (s : State) :
    closeCommand (recordError code s) =
      { s with inflight := none, err := true, errcode := if s.err then s.errcode else code.code } := by
  rw [recordError_eq]
  rfl

/-- With no error recorded yet, it is the failing command's that is recorded. -/
theorem closeCommand_recordError_of_clean (code : ErrorCode) {s : State} (he : s.err = false) :
    closeCommand (recordError code s) = { s with inflight := none, err := true, errcode := code.code } := by
  simp only [closeCommand_recordError, he, Bool.false_eq_true, if_false]

/-- The completion of a word that is no command records the word's error (checks 1 and 2 of R241). -/
theorem completeWord_rejected {w : Word} {why : Reject} {code : ErrorCode} (h : decode (.command w) = .rejected why)
    (hcode : rejectCode why = some code) (s : State) :
    completeWord w s = .next (closeCommand (recordError code s)) := by
  simp only [completeWord, h, completeRejected, hcode, completeWith]

/-! ### Checks 3 to 6, each command's in their order -/

/-- INIT: check 6 of R241. -/
theorem exec_init_eq (s : State) :
    exec .init s =
      if s.k0ld = false ∨ s.k1ld = false then .next (closeCommand (recordError .keyNotLoaded s))
      else .next (closeCommand (performInit s)) := by
  simp only [exec, execInit, initCheck]
  split <;> rfl

/-- ABSORB: checks 3, 4 and 5 of R241. -/
theorem exec_absorb_eq (s : State) :
    exec .absorb s =
      if s.err = true then .next (closeCommand s)
      else if s.phase ≠ .absorbing then .next (closeCommand (recordError .badSequence s))
      else if s.len.toNat > 2 ^ 64 - 9 then .next (closeCommand (recordError .lengthOverflow s))
      else .next (closeCommand (performAbsorb s)) := by
  simp only [exec, execAbsorb, absorbCheck, jobCheck]
  by_cases he : s.err = true
  · rw [if_pos he, if_pos he]
    rfl
  rw [if_neg he, if_neg he]
  by_cases hp : s.phase ≠ .absorbing
  · rw [if_pos hp, if_pos hp]
    rfl
  rw [if_neg hp, if_neg hp]
  by_cases hl : s.len.toNat > 2 ^ 64 - 9
  · rw [if_pos hl, if_pos hl]
    rfl
  · rw [if_neg hl, if_neg hl]
    rfl

/-- FINAL: checks 3 and 4 of R241. -/
theorem exec_final_eq (r : BitVec 3) (s : State) :
    exec (.final r) s =
      if s.err = true then .next (closeCommand s)
      else if s.phase ≠ .absorbing then .next (closeCommand (recordError .badSequence s))
      else .next (closeCommand (performFinal r s)) := by
  simp only [exec, execFinal, jobCheck]
  split
  · rfl
  · split <;> rfl

/-- Settles O18, by `exec_init_eq`: a key word that is not loaded fails check 6. -/
theorem initNeedsBothKeyWords : Obligations.InitNeedsBothKeyWords := by
  intro s hk
  rw [exec_init_eq, if_pos hk, closeCommand_recordError]
  rfl

/-- Settles O20, by `exec_absorb_eq`: each clause is the first check that applies. -/
theorem absorbFailsItsChecks : Obligations.AbsorbFailsItsChecks := by
  intro s
  rw [exec_absorb_eq]
  refine ⟨fun he => ?_, fun he hp => ?_, fun he hp hl => ?_⟩
  · rw [if_pos he, closeCommand]
  · rw [if_neg (by simp [he]), if_pos hp, closeCommand_recordError_of_clean _ he]
    rfl
  · rw [if_neg (by simp [he]), if_neg (not_not.mpr hp), if_pos hl, closeCommand_recordError_of_clean _ he]
    rfl

/-- Settles O22, by `exec_final_eq`: each clause is the first check that applies. -/
theorem finalFailsItsChecks : Obligations.FinalFailsItsChecks := by
  intro s r
  rw [exec_final_eq]
  refine ⟨fun he => ?_, fun he hp => ?_⟩
  · rw [if_pos he, closeCommand]
  · rw [if_neg (by simp [he]), if_pos hp, closeCommand_recordError_of_clean _ he]
    rfl

/-- Settles O24: a word with an illegal opcode or a nonzero reserved field is rejected, checks 1 and 2; for each of the five
commands the remaining checks are those of its `exec` equation. -/
theorem completionChecksInPriorityOrder : Obligations.CompletionChecksInPriorityOrder := by
  intro s w
  have hd := commandDecodingFollowsItsTable.1 w
  have hfails := fun code => closeCommand_recordError code s
  by_cases hillegal : 5 ≤ w.toNat % 256
  · simp only [hillegal, if_true] at hd ⊢
    rw [completeWord_rejected hd rfl, hfails]
    rfl
  by_cases hreserved : w.toNat / 2048 ≠ 0 ∨ (w.toNat % 256 ≠ 3 ∧ w.toNat / 256 % 8 ≠ 0)
  · have hrejected : decode (.command w) = .rejected .reservedField := by
      rw [hd]
      obtain h | h := hreserved <;> simp [hillegal, h]
    simp only [hillegal, hreserved, if_true, if_false]
    rw [completeWord_rejected hrejected rfl, hfails]
    rfl
  simp only [hillegal, hreserved, if_false]
  obtain ⟨hrsvd, hrem⟩ := not_or.mp hreserved
  simp only [hillegal, hrsvd, hrem, if_false] at hd
  obtain hop | hop | hop | hop | hop : w.toNat % 256 = 0 ∨ w.toNat % 256 = 1 ∨ w.toNat % 256 = 2 ∨ w.toNat % 256 = 3 ∨
      w.toNat % 256 = 4 := by omega
  all_goals
    simp only [hop, Nat.reduceEqDiff, OfNat.ofNat_ne_zero, false_or, or_false, or_self, false_and, true_and, if_true,
      if_false] at hd ⊢
    rw [completeWord_instr hd]
  · rfl
  · rw [exec_init_eq, hfails]
    rfl
  · rw [exec_absorb_eq, hfails, hfails]
    rfl
  · rw [exec_final_eq, hfails]
    rfl
  · rfl

end Sys2Proof.Machine
end

section
/-! PROOFS of 60_exceptions.md R242 and R246 to R252: no error stops the engine, and a recorded one stays until INIT, ABORT or reset. -/

namespace Sys2Proof.Machine

/-- Settles O40: of the four events only a request can stop the step, and only outside the window. -/
theorem everyStepGivesAState : Obligations.EveryStepGivesAState :=
  ⟨fun _ hrouted => step_next_of_routed hrouted, fun _ hwindow => step_next hwindow⟩

/-! ### What a step can do while an error is recorded -/

/-- The error recorded in s stays in t, and the job with it (R242). -/
structure ErrorKept (s t : State) : Prop where
  err : t.err = true
  errcode : t.errcode = s.errcode
  phase : t.phase = s.phase
  v : t.v = s.v
  len : t.len = s.len
  tag : t.tag = s.tag

theorem ErrorKept.trans {s t u : State} (h : ErrorKept s t) (h' : ErrorKept t u) : ErrorKept s u where
  err := h'.err
  errcode := h'.errcode.trans h.errcode
  phase := h'.phase.trans h.phase
  v := h'.v.trans h.v
  len := h'.len.trans h.len
  tag := h'.tag.trans h.tag

theorem SameItems.errorKept {s t : State} (h : SameItems s t) (he : s.err = true) : ErrorKept s t :=
  ⟨h.err.trans he, h.errcode, h.phase, h.v, h.len, h.tag⟩

/-- The first error is kept (R243, R248). -/
theorem errorKept_recordError {s : State} (code : ErrorCode) (he : s.err = true) : ErrorKept s (recordError code s) := by
  constructor <;> simp [he]

/-- What the event e makes of a state s with ERR = 1: the error stays, unless e is one of the three that clear it (R247). -/
inductive AfterError (s : State) : Event → State → Prop where
  /-- The error and the job stay. -/
  | keeps {e : Event} {t : State} (h : ErrorKept s t) : AfterError s e t
  /-- A reset. -/
  | resets {t : State} (h : SameItems (resetItems s) t) : AfterError s .reset t
  /-- INIT, both key words loaded. -/
  | inits {t : State} (w : Word) (hw : decodeCommand w = .instr .init) (h0 : s.k0ld = true) (h1 : s.k1ld = true)
      (h : SameItems (performInit s) t) : AfterError s (.complete w) t
  /-- ABORT. -/
  | aborts {t : State} (w : Word) (hw : decodeCommand w = .instr .abort) (h : SameItems (performAbort s) t) :
      AfterError s (.complete w) t

/-- A completion while an error is recorded: ABSORB and FINAL do not execute (R242). -/
theorem Completed.afterError {w : Word} {s u t : State} (h : Completed w (sampleInputs s) u) (he : s.err = true)
    (hsame : SameItems u t) : AfterError s (.complete w) t := by
  cases h with
  | fails code =>
    have hu : SameItems (recordError code s) (closeCommand (recordError code (sampleInputs s))) := by constructor <;> simp
    exact .keeps ((errorKept_recordError code he).trans ((hu.trans hsame).errorKept (by simp)))
  | nothing =>
    have hu : SameItems s (closeCommand (sampleInputs s)) := by constructor <;> simp
    exact .keeps ((hu.trans hsame).errorKept he)
  | inits hw h0 h1 =>
    have hu : SameItems (performInit s) (closeCommand (performInit (sampleInputs s))) := by constructor <;> simp
    exact .inits w hw (by simpa using h0) (by simpa using h1) (hu.trans hsame)
  | absorbs _ hclean => simp [he] at hclean
  | finals _ _ hclean => simp [he] at hclean
  | aborts hw =>
    have hu : SameItems (performAbort s) (closeCommand (performAbort (sampleInputs s))) := by constructor <;> simp
    exact .aborts w hw (hu.trans hsame)

/-- Every step from a state with ERR = 1, by its event. -/
theorem afterError_of_step {s t : State} (he : s.err = true) (h : step s = .next t) : AfterError s (nextEvent s) t := by
  rw [step_eq_serveEvent] at h
  generalize nextEvent s = e at h ⊢
  cases e with
  | reset =>
    cases h
    exact .resets (by constructor <;> simp)
  | complete w =>
    obtain ⟨u, hu, rfl | ⟨a, rfl⟩⟩ := serveEvent_complete_cases h
    · exact (completed_of_completeWord hu).afterError he (by constructor <;> rfl)
    · exact (completed_of_completeWord hu).afterError he (sameItems_finishRequest a u)
  | request r =>
    obtain ⟨u, hu, hsame⟩ := (served_of_serveRequest h).itemsAfter
    have hkept : ErrorKept s u := by
      cases hu with
      | records code => exact errorKept_recordError code he
      | _ => exact ⟨he, rfl, rfl, rfl, rfl, rfl⟩
    exact .keeps (hkept.trans (hsame.errorKept hkept.err))
  | quiet =>
    cases h
    exact .keeps (by constructor <;> simp [he])

/-- Settles O50: of what a step can do under ERR = 1, only reset, INIT and ABORT change ERR or ERRCODE, and these clear both. -/
theorem aRecordedErrorStays : Obligations.ARecordedErrorStays := by
  intro s t he h hne
  have hafter := afterError_of_step he h
  generalize nextEvent s = e at hafter ⊢
  cases hafter with
  | keeps hkept => exact absurd (by rw [hkept.err, hkept.errcode, he]) hne
  | resets hsame => exact ⟨hsame.err, hsame.errcode, .inl ⟨rfl, hsame.phase⟩⟩
  | inits w hw h0 h1 hsame =>
    exact ⟨hsame.err, hsame.errcode, .inr ⟨w, rfl, .inl ⟨hw, h0, h1, hsame.phase, hsame.v⟩⟩⟩
  | aborts w hw hsame => exact ⟨hsame.err, hsame.errcode, .inr ⟨w, rfl, .inr ⟨hw, hsame.phase⟩⟩⟩

/-! ### Runs in which nothing clears the error -/

/-- An event that is no reset and no completion of INIT or ABORT keeps the error and the job. -/
theorem AfterError.errorKept {s t : State} {e : Event} (h : AfterError s e t) (he : clearsError e = false) :
    ErrorKept s t := by
  cases h with
  | keeps hkept => exact hkept
  | resets => cases he
  | inits w hw => simp [clearsError, hw] at he
  | aborts w hw => simp [clearsError, hw] at he

/-- A run in which no event clears the error keeps it, and the job with it. -/
theorem errorKept_of_run {k : Nat} {s t : State} (he : s.err = true)
    (hevents : ∀ j < k, ∀ u, run j s = .next u → clearsError (nextEvent u) = false) (h : run k s = .next t) :
    ErrorKept s t := by
  induction k generalizing s with
  | zero =>
    cases h
    exact ⟨he, rfl, rfl, rfl, rfl, rfl⟩
  | succ k ih =>
    obtain ⟨u, hstep, hrun⟩ := run_succ_cases h
    have hkept : ErrorKept s u := (afterError_of_step he hstep).errorKept (hevents 0 k.succ_pos s (run_zero s))
    have hlater : ∀ j < k, ∀ v, run j u = .next v → clearsError (nextEvent v) = false := fun j hj v hv =>
      hevents (j + 1) (Nat.succ_lt_succ hj) v ((run_succ hstep).trans hv)
    exact hkept.trans (ih hkept.err hlater hrun)

/-- Settles O51, by `errorKept_of_run`. -/
theorem aJobWithAnErrorYieldsNoTag : Obligations.AJobWithAnErrorYieldsNoTag := by
  intro k s t he hevents h
  obtain ⟨herr, herrcode, hphase, hv, hlen, htag⟩ := errorKept_of_run he hevents h
  exact ⟨herr, herrcode, hphase, hv, hlen, htag⟩

end Sys2Proof.Machine
end

section
/-! PROOFS of 70_reset_and_hazards.md R280, R281, R287 and R289: the cycle's inputs, the reset, and the reads of STATUS and TAG. -/

namespace Sys2Proof.Machine

/-! ### STATUS behind a CMD write -/

/-- The effect f on the items depends on the items only. -/
def KeepsSameItems (f : State → State) : Prop :=
  ∀ s s', SameItems s s' → SameItems (f s) (f s')

theorem keepsSameItems_id : KeepsSameItems id := fun _ _ h => h

theorem keepsSameItems_recordError (code : ErrorCode) : KeepsSameItems (recordError code) := by
  intro s s' h
  rw [recordError_eq, recordError_eq]
  exact { h with err := rfl, errcode := by rw [h.err, h.errcode] }

theorem keepsSameItems_closeCommand : KeepsSameItems closeCommand := fun _ _ h => { h with }

theorem keepsSameItems_performInit : KeepsSameItems performInit := fun _ _ h =>
  { h with v := congrArg₂ initState h.key0 h.key1, len := rfl, tag := rfl, phase := rfl, err := rfl, errcode := rfl }

theorem keepsSameItems_performAbsorb : KeepsSameItems performAbsorb := fun _ _ h =>
  { h with v := congrArg₂ absorbBlock h.v h.data, len := congrArg (· + 8) h.len }

theorem keepsSameItems_performFinal (r : BitVec 3) : KeepsSameItems (performFinal r) := by
  intro s s' h
  have htag : (performFinal r s').tag = (performFinal r s).tag := by simp only [performFinal_tag, h.v, h.data, h.len]
  exact { h with
    v := rfl, key0 := rfl, key1 := rfl, k0ld := rfl, k1ld := rfl, data := rfl, phase := rfl, tag := htag
    len := congrArg (· + remOperand r) h.len }

theorem keepsSameItems_performAbort : KeepsSameItems performAbort := fun _ _ _ => by
  constructor <;> rfl

theorem SameItems.initCheck_eq {s s' : State} (h : SameItems s s') : initCheck s' = initCheck s := by
  simp only [initCheck, h.k0ld, h.k1ld]

theorem SameItems.jobCheck_eq {s s' : State} (h : SameItems s s') : jobCheck s' = jobCheck s := by
  simp only [jobCheck, h.err, h.phase]

theorem SameItems.absorbCheck_eq {s s' : State} (h : SameItems s s') : absorbCheck s' = absorbCheck s := by
  simp only [absorbCheck, h.jobCheck_eq, h.len]

/-- Both results are next states, with the same items. -/
def NextSameItems (a b : Result) : Prop :=
  ∃ t t', a = .next t ∧ b = .next t' ∧ SameItems t t'

theorem completeWith_sameItems (verdict : Verdict) {perform : State → State} (hp : KeepsSameItems perform) {s s' : State}
    (h : SameItems s s') : NextSameItems (completeWith verdict perform s) (completeWith verdict perform s') := by
  cases verdict with
  | error code => exact ⟨_, _, rfl, rfl, keepsSameItems_closeCommand _ _ (keepsSameItems_recordError code _ _ h)⟩
  | discard => exact ⟨_, _, rfl, rfl, keepsSameItems_closeCommand _ _ h⟩
  | execute => exact ⟨_, _, rfl, rfl, keepsSameItems_closeCommand _ _ (hp _ _ h)⟩

/-- What a word's completion makes of the items depends on nothing but the items (41_commands.md R161). -/
theorem completeWord_sameItems (w : Word) {s s' : State} (h : SameItems s s') :
    NextSameItems (completeWord w s) (completeWord w s') := by
  unfold completeWord
  cases hd : decode (.command w) with
  | rejected why =>
    simp only [completeRejected]
    split <;> exact completeWith_sameItems _ keepsSameItems_id h
  | instr i =>
    obtain ⟨-, c⟩ := decodeCommand_cases hd
    rcases c with ⟨-, -, rfl⟩ | ⟨-, -, rfl⟩ | ⟨-, -, rfl⟩ | ⟨-, rfl⟩ | ⟨-, -, rfl⟩
    · exact completeWith_sameItems .execute keepsSameItems_id h
    · simp only [exec, execInit, h.initCheck_eq]
      exact completeWith_sameItems _ keepsSameItems_performInit h
    · simp only [exec, execAbsorb, h.absorbCheck_eq]
      exact completeWith_sameItems _ keepsSameItems_performAbsorb h
    · simp only [exec, execFinal, h.jobCheck_eq]
      exact completeWith_sameItems _ (keepsSameItems_performFinal _) h
    · exact completeWith_sameItems .execute keepsSameItems_performAbort h

/-- STATUS depends on the items and BUSY only (10_state.md R49). -/
theorem SameItems.statusWord_eq {s s' : State} (h : SameItems s s') (hb : s'.busy = s.busy) : statusWord s' = statusWord s := by
  simp only [statusWord, h.k0ld, h.k1ld, h.err, h.errcode, h.phase, hb]

/-- A command that goes in flight sets STATUS bit 0, BUSY (10_state.md R49). -/
theorem SameItems.statusWord_of_issued {s s' : State} (h : SameItems s s') (hs : s.busy = false) (hs' : s'.busy = true) :
    statusWord s' = statusWord s ||| 1 := by
  have hbit0 : (BitVec.ofBool false).setWidth 64 ||| 1 = (BitVec.ofBool true).setWidth 64 := by decide
  simp only [statusWord, h.k0ld, h.k1ld, h.err, h.errcode, h.phase, hs, hs', BitVec.or_assoc, hbit0]

/-- A CMD write at the head of the port, with no command in flight and quiet inputs, puts its word in flight in one step
(42_register_access.md R206). -/
theorem step_issues {s : State} {w : Word} {rest : List Request} (hq : QuietInputs s) (hidle : s.inflight = none)
    (hp : s.port = writeOf .cmd w :: rest) :
    ∃ t, step s = .next t ∧ QuietInputs t ∧ t.port = rest ∧ t.inflight = some { word := w, left := nextLatency s } ∧
      SameItems s t := by
  have hstep : step s = .next (finishRequest .written (issueCommand w (sampleInputs s))) := by
    rw [step_serves_head hq.noReset hidle hp, serveRequest_instr (decodeRequest_writeOf .cmd w)]
    exact exec_write_of_idle (effect := issueCommand w) rfl (by simp [hidle])
  obtain ⟨-, hport⟩ := quietInputs_sampleInputs hq
  refine ⟨_, hstep, quietInputs_of_step hq hstep, by simp [hport, hp], ?_, by constructor <;> simp⟩
  simp [nextLatency]

/-- Settles O57: the write is the first step; the second serves the STATUS read, alone where cycles of LAT are left, else right
after the completion, which finds the items of s. -/
theorem busyAsReadDependsOnTheLatency : Obligations.BusyAsReadDependsOnTheLatency := by
  intro s w lats hq hidle hp
  obtain ⟨s₁, hstep, hq₁, hp₁, hflight, hsame⟩ := step_issues hq hidle hp
  obtain ⟨⟨hr, -⟩, hport⟩ := quietInputs_sampleInputs hq₁
  rw [hp₁] at hport
  refine ⟨fun n hlat => ?_, fun hlat => ?_⟩ <;> rw [nextLatency_of_cons hlat] at hflight
  · have hread := step_statusRead_of_flight hr hflight hport
    refine ⟨_, run_add_one (run_succ hstep) hread, ?_⟩
    rw [hsame.statusWord_of_issued (busy_eq_false.mpr hidle) (by simp [State.busy, hflight])]
  · have hsampled : SameItems s₁ (sampleInputs s₁) := by constructor <;> simp
    obtain ⟨t, v, ht, hv, htv⟩ := completeWord_sameItems w (hsame.trans hsampled)
    have htb : t.busy = false := busy_eq_false.mpr (completed_of_completeWord ht).inflight_eq
    have hvb : v.busy = false := busy_eq_false.mpr (completed_of_completeWord hv).inflight_eq
    have hread := step_of_complete_statusRead (nextEvent_complete hr hflight) hport hv
    refine ⟨t, _, ht, run_add_one (run_succ hstep) hread, (getLsbD_zero_statusWord t).trans htb, ?_⟩
    rw [htv.statusWord_eq (hvb.trans htb.symm)]

/-! ### The cycle's inputs -/

theorem restingAnswer_eq (p : List Request) : restingAnswer p = if p = [] then .idle else .stalled := by
  cases p <;> rfl

theorem sampleInputs_of_nil {s : State} (h : s.inputs = []) :
    sampleInputs s = { s with answer := restingAnswer s.port } := by
  simp only [sampleInputs, h]

theorem sampleInputs_of_cons {s : State} {c : CycleInput} {rest : List CycleInput} (h : s.inputs = c :: rest) :
    sampleInputs s =
      { s with rst := c.rst, port := portAfter c s, inputs := rest, answer := restingAnswer (portAfter c s) } := by
  simp only [sampleInputs, h]

/-- A reset that becomes asserted abandons what stood at the port (70_reset_and_hazards.md R280). -/
theorem portAfter_of_asserted {c : CycleInput} {s : State} (h : c.rst = true ∧ s.rst = false) :
    portAfter c s = c.request.toList := by
  simp [portAfter, h]

/-- Otherwise the request that arrives joins the port last (20_memory.md R81). -/
theorem portAfter_of_not_asserted {c : CycleInput} {s : State} (h : ¬(c.rst = true ∧ s.rst = false)) :
    portAfter c s = s.port ++ c.request.toList := by
  rw [portAfter, if_neg (by simpa using h)]

/-- Settles O37: the two cases of `sampleInputs`, with the port of `portAfter`. -/
theorem inputsReachThePort : Obligations.InputsReachThePort := by
  refine ⟨fun s h => ?_, fun s c rest h => ⟨portAfter c s, portAfter_of_asserted, portAfter_of_not_asserted, ?_⟩⟩
  · rw [sampleInputs_of_nil h, restingAnswer_eq]
  · rw [sampleInputs_of_cons h, restingAnswer_eq]

/-! ### The reset -/

/-- A cycle takes its own entry off the inputs (log entry 4). -/
theorem sampleInputs_inputs (s : State) : (sampleInputs s).inputs = s.inputs.tail := by
  cases h : s.inputs with
  | nil => rw [sampleInputs_of_nil h, h, List.tail_nil]
  | cons c rest => rw [sampleInputs_of_cons h, List.tail_cons]

/-- With the reset input asserted, the event is the reset, whatever else is due (60_exceptions.md R250). -/
theorem step_of_reset {s : State} (h : (sampleInputs s).rst = true) : step s = .next (resetItems (sampleInputs s)) := by
  have he : nextEvent s = .reset := by rw [nextEvent, selectEvent, if_pos h]
  rw [step_eq_serveEvent, he]
  rfl

/-- A reset that becomes asserted leaves at the port at most the request that arrives with it (log entry 6). -/
theorem sampleInputs_port_of_asserted {s : State} (h : (sampleInputs s).rst = true) (hs : s.rst = false) :
    ∃ c rest, s.inputs = c :: rest ∧ (sampleInputs s).port = c.request.toList := by
  cases hi : s.inputs with
  | nil => simp [sampleInputs_of_nil hi, hs] at h
  | cons c rest =>
    rw [sampleInputs_of_cons hi] at h ⊢
    exact ⟨c, rest, rfl, portAfter_of_asserted ⟨h, hs⟩⟩

/-- Settles O38: the step is `resetItems` of the state the cycle's inputs give. -/
theorem resetClearsEveryItem : Obligations.ResetClearsEveryItem := by
  intro s hr
  refine ⟨?_, sampleInputs_port_of_asserted hr⟩
  rw [step_of_reset hr, resetItems, hr, sampleInputs_inputs, sampleInputs_answer, restingAnswer_eq, sampleInputs_latencies,
    sampleInputs_issued]
  rfl

/-! ### TAG -/

/-- The invariants hold TAG at zero in IDLE and in ABSORBING (10_state.md R56). -/
theorem tag_eq_zero_of_stateInv {s : State} (h : StateInv s) (hp : s.phase ≠ .done) : s.tag = 0 := by
  obtain ⟨-, -, hidle, hopen⟩ := h
  cases hphase : s.phase with
  | idle =>
    obtain ⟨-, -, htag⟩ := hidle hphase
    exact htag
  | absorbing =>
    obtain ⟨htag, -⟩ := hopen hphase
    exact htag
  | done => exact absurd hphase hp

/-- Settles O53: the read returns TAG, which the invariants hold at zero. -/
theorem tagReadsZeroOutsideDone : Obligations.TagReadsZeroOutsideDone := by
  intro s t hs hidle hp h
  have hread := exec_read_of_idle (reg := .tag) nofun hidle
  rw [readValue, tag_eq_zero_of_stateInv hs hp, leBytes_zero] at hread
  cases h.symm.trans hread
  rfl

end Sys2Proof.Machine
end
